-- ==== Sys2Proof/Word.lean ====
section
/-! DEFINITION. The word types of the block (00_scope.md rule R6): bytes, the 16-bit CRC, the 5-bit counters and
the 176-bit payload buses. Every value is unsigned. -/

namespace Sys2Proof

/-- A byte: 8 bits, bit 0 the least significant (R6). -/
abbrev Byte := BitVec 8

/-- The CRC accumulator and the CRC field of a packet: 16 bits (R64, R90). -/
abbrev Half := BitVec 16

/-- The 5-bit byte counters `rx_cnt`, `tx_len`, `tx_idx` and the output `pkt_len` (R12, R16, R21). -/
abbrev Count := BitVec 5

/-- The two 22-lane byte buses `pkt_data` and `txq_payload` (R181). -/
abbrev Lanes := BitVec 176

end Sys2Proof
end

