-- ==== Sys2Proof/Config.lean ====
section
/-! DEFINITION. The implementation parameters of 00_scope.md rule R5, all of them. They are constants of an instance: a
model takes each as a field of its configuration. Their default values stand in Sys2Proof/Machine/Parameters.lean. -/

namespace Sys2Proof

/-- The parameters of R5. -/
structure Config where
  /-- `MAX_DATA`: largest legal length byte and largest request payload. -/
  maxData : Nat
  /-- `MIN_FRAME`: bytes in the shortest packet. -/
  minFrame : Nat
  /-- `MAX_FRAME`: bytes in the longest packet. -/
  maxFrame : Nat
  /-- `CRC_POLY`: the generator polynomial, most significant bit first. -/
  crcPoly : Half
  /-- `CRC_POLY_R`: `CRC_POLY` with its 16 bits reversed. -/
  crcPolyR : Half
  /-- `CRC_INIT`: the accumulator before the first byte. -/
  crcInit : Half
  /-- `CRC_REFLECT`: bytes enter least significant bit first, the result is not reversed. -/
  crcReflect : Bool
  /-- `CRC_XOROUT`: XORed into the accumulator to give the final CRC. -/
  crcXorOut : Half
  /-- `REPORT_CLASS`: the value of type bits 7:6 that marks a report. -/
  reportClass : BitVec 2
  /-- `TIMEOUT_TICKS`: TICK events from a type byte to the expiry of its window. -/
  timeoutTicks : Nat
  /-- `TICK_PERIOD`: real time between two TICK events, in nanoseconds; `none` where left open (assumption 17). -/
  tickPeriod : Option Nat
  /-- `TIMER_W`: the width in bits of `rx_timer`. -/
  timerW : Nat
  /-- `CLK_HZ`: the clock frequency; `none` where left open (assumption 17). -/
  clkHz : Option Nat
  /-- `PHY_KIND`: the kind of serial interface behind the transport (R180), an uninterpreted number; `none` where left open
  (assumption 17). -/
  phyKind : Option Nat
  /-- `BAUD`: the rate of that interface (R180); `none` where left open (assumption 17). -/
  baud : Option Nat
  deriving DecidableEq, Repr

end Sys2Proof
end

