-- ==== Sys2Proof/Machine/Parameters.lean ====
section
/-! DEFINITION. The parameter values of 00_scope.md rule R5 and the ranges it sets for them. -/

namespace Sys2Proof

/-- The values of R5. `crcXorOut` is the spec's from general knowledge (G1 of 93_implementation_defined.md; assumption 9);
the others are D0's literals or follow from them, and the four that R5 leaves open have no value (assumption 17). -/
def Config.default : Config where
  maxData := 22
  minFrame := 4
  maxFrame := 26
  crcPoly := 0x1021
  crcPolyR := 0x8408
  crcInit := 0xFFFF
  crcReflect := true
  crcXorOut := 0xFFFF
  reportClass := 0b10
  timeoutTicks := 250
  tickPeriod := none
  timerW := 8
  clkHz := none
  phyKind := none
  baud := none

/-- The parameters the block of the spec can have. R5 gives `TIMEOUT_TICKS` at least 1 and below `2^TIMER_W` (U16),
`MIN_FRAME` 4, `MAX_FRAME` as `MAX_DATA + 4`, and `CRC_POLY_R` as the reversal of `CRC_POLY`. Other rules give the rest: the
packet buffers have 26 registers (R13, R20) and lengths above 22 are illegal (R63), and R90 has the reflected algorithm only
(assumption 13). The four open parameters may be anything. -/
def Config.legal (c : Config) : Bool :=
  decide (c.minFrame = 4) && decide (c.maxFrame = c.maxData + 4) && decide (c.maxFrame ≤ 26) &&
    decide (c.crcPolyR = c.crcPoly.reverse) && c.crcReflect &&
    decide (1 ≤ c.timeoutTicks) && decide (c.timeoutTicks < 2 ^ c.timerW)

end Sys2Proof
end

