-- ==== Sys2Proof/Syntax.lean ====
section
/-! DEFINITION. What the block can be told to do, one constructor of `Instr` per row of spec/opcode_table.json: the 19
TYPE rows (a wire packet of a given type byte, in either direction, 30_encoding.md R60 to R68 and the directives SEND
and RXPKT of R69, R70) and the 10 EVENT rows (the operations of R66). -/

namespace Sys2Proof

/-- How a packet of some type crosses the block (the operand of every TYPE row). The format is the same in both
directions (R60): the block sends any type byte (R164) and accepts any type byte (R68, R111). -/
inductive Transfer where
  /-- Host to device, `SEND cc : p0 p1 ...` (R69): the block computes the CRC itself. -/
  | send (payload : List Byte)
  /-- Host to device with a payload length above 22; the payload is not looked at (R160). -/
  | sendOversize (plen : Byte)
  /-- Device to host: data bytes and the CRC the packet carries, right or wrong (R61). -/
  | receive (data : List Byte) (crc : Half)
  /-- Device to host with an illegal length byte; nothing after it belongs to the packet (R63). -/
  | receiveOversize (len : Byte)
  deriving DecidableEq, Repr

/-- One constructor per row of spec/opcode_table.json, in the table's order. -/
inductive Instr where
  -- request types (R142)
  | pingReq (x : Transfer)
  | clearReq (x : Transfer)
  | setSpriteReq (x : Transfer)
  | setBacklightReq (x : Transfer)
  | writeReq (x : Transfer)
  | setLedReq (x : Transfer)
  -- response types (R143)
  | pingRsp (x : Transfer)
  | clearRsp (x : Transfer)
  | setSpriteRsp (x : Transfer)
  | setBacklightRsp (x : Transfer)
  | writeRsp (x : Transfer)
  | setLedRsp (x : Transfer)
  -- report types (R144)
  | keyActivityRpt (x : Transfer)
  | fanSpeedRpt (x : Transfer)
  | temperatureRpt (x : Transfer)
  -- every other type byte, by its class tag (R147)
  | reportOther (code6 : BitVec 6) (x : Transfer)
  | class01Other (code6 : BitVec 6) (x : Transfer)
  | class00Other (code6 : BitVec 6) (x : Transfer)
  | class11Other (code6 : BitVec 6) (x : Transfer)
  -- events (R66)
  | reset
  | tick
  | pktAccept
  | rxByteType (b : Byte)
  | rxByteLength (b : Byte)
  | rxByteBody (b : Byte)
  | rxClose
  | txStart (code plen : Byte) (payload : List Byte)
  | txFail
  | txByte
  deriving DecidableEq, Repr

/-- The eight events, in the order of their bits in the event vector (R66). -/
inductive Event where
  | reset | tick | pktAccept | rxByte | rxClose | txStart | txFail | txByte
  deriving DecidableEq, Repr

/-- The event vector `EV` of one cycle with the operands of its events (R66): RX_BYTE takes `rxData`; TX_START takes
`code`, `plen` and `payload` (22 bytes). -/
structure EventVector where
  ev      : Byte
  rxData  : Byte
  code    : Byte
  plen    : Byte
  payload : List Byte
  deriving DecidableEq, Repr

/-- Which of the two things that are encoded (30_encoding.md) a word is, and for a packet at which port it shows. -/
inductive Format where
  /-- An event vector and its operand bytes (R66). -/
  | event
  /-- A packet at the transmit request port: type, length, payload; no CRC yet (R160). -/
  | request
  /-- A packet on the receive stream, as on the wire: type, length, data, crc_lo, crc_hi (R61). -/
  | packet
  deriving DecidableEq, Repr

/-- Why bytes are no instruction. -/
inductive DecodeError where
  /-- Fewer bytes than the format asks for. -/
  | truncated
  /-- An event vector with no bit set: a cycle in which nothing occurs. -/
  | noEvent
  /-- An event vector that holds several events; each is an instruction of its own (R66). -/
  | severalEvents
  /-- RX_BYTE in `COMPLETE` or `TERMINATED`, for which the opcode table has no row (R110). -/
  | rxByteNotReady
  deriving DecidableEq, Repr

end Sys2Proof
end

