-- ==== Sys2Proof/Machine/State.lean ====
section
/-! DEFINITION. The architectural state of 10_state.md as plain data, partitioned between the two agents as R10 says,
with the output actions each agent has emitted (R8), the instance's parameters, and the inputs still to come. -/

namespace Sys2Proof.Machine

/-- `rx_state` (R11). The register's values 5, 6, 7 are never reached and have no constructor (U7). -/
inductive RxState where
  | awaitType | awaitLength | awaitBody | complete | terminated
  deriving DecidableEq, Repr

/-- `tx_state` (R19). -/
inductive TxState where
  | idle | send
  deriving DecidableEq, Repr

/-- The values of `drop_reason` (R26, R200). -/
inductive DropReason where
  | none | badLength | badCrc | timeout
  deriving DecidableEq, Repr

/-- The values of `tx_status`; 3 is never produced and has no constructor (R26, R200, U10). -/
inductive TxStatus where
  | ok | payloadTooLarge | ioError
  deriving DecidableEq, Repr

/-- What `Deliver` hands to the consumer (R115) and what the `pkt_*` outputs show (R16). -/
structure Packet where
  type     : Byte
  len      : Count
  data     : List Byte
  isReport : Bool
  deriving DecidableEq, Repr

/-- Output actions of the RX agent (R8, R17). -/
inductive RxAction where
  | drop (reason : DropReason)
  | deliver (p : Packet)
  deriving DecidableEq, Repr

/-- Output actions of the TX agent (R8, R22). -/
inductive TxAction where
  | txOut (b : Byte)
  | txDone (status : TxStatus)
  deriving DecidableEq, Repr

/-- A packet buffer: 26 registers of 8 bits (R13, R20, R23). -/
abbrev Buffer := Vector Byte 26

/-- Everything the RX agent owns (R10). -/
structure RxSide where
  /-- `rx_state`, 3 bits (R11). -/
  state : RxState
  /-- `rx_cnt`, 5 bits, 0 to 26 (R12). -/
  cnt : Count
  /-- `rx_buf[0..25]` (R13). -/
  buf : Buffer
  /-- `rx_timer`, `TIMER_W` bits (R14): a count that never reaches `2^TIMER_W`. -/
  timer : Nat
  /-- `drop_valid`, 1 bit (R17). -/
  dropValid : Bool
  /-- `drop_reason`, 2 bits (R17, R26). -/
  dropReason : DropReason
  /-- The `Drop` and `Deliver` actions emitted so far, oldest first (the model's record; assumption 4). -/
  actions : List RxAction
  deriving DecidableEq, Repr

/-- Everything the TX agent owns (R10). -/
structure TxSide where
  /-- `tx_state`, 1 bit (R19). -/
  state : TxState
  /-- `tx_buf[0..25]` (R20). -/
  buf : Buffer
  /-- `tx_len`, 5 bits (R21). -/
  len : Count
  /-- `tx_idx`, 5 bits (R21). -/
  idx : Count
  /-- `tx_done`, 1 bit (R22). -/
  done : Bool
  /-- `tx_status`, 2 bits (R22, R26). -/
  status : TxStatus
  /-- The `TxOut` and `TxDone` actions emitted so far, oldest first (assumption 4); its `TxOut` bytes are the transmit
  stream (R42). -/
  actions : List TxAction
  deriving DecidableEq, Repr

/-- The input ports of the clocked realisation in one clock cycle (R181). -/
structure PortIn where
  rst        : Bool
  tick       : Bool
  rxValid    : Bool
  rxData     : Byte
  rxClosed   : Bool
  txReady    : Bool
  txFail     : Bool
  pktReady   : Bool
  txqValid   : Bool
  txqCode    : Byte
  txqPlen    : Byte
  txqPayload : Lanes
  deriving DecidableEq, Repr

/-- The output ports of the clocked realisation (R181): `none` where a port holds no value (R240; assumption 14), the
two code fields as the codes of R200. -/
structure PortOut where
  rxReady      : Bool
  txValid      : Bool
  txData       : Option Byte
  pktValid     : Bool
  pktType      : Option Byte
  pktLen       : Option Count
  /-- The 22 lanes of `pkt_data`, lane 0 first. -/
  pktData      : List (Option Byte)
  pktIsReport  : Option Bool
  dropValid    : Bool
  dropReason   : Option (BitVec 2)
  rxTerminated : Bool
  txqReady     : Bool
  txDone       : Bool
  txStatus     : Option (BitVec 2)
  deriving DecidableEq, Repr

/-- What the environment does to the block in one step (assumption 3). -/
inductive Input where
  /-- A word of 30_encoding.md: an event vector with operands, or a packet. -/
  | word (f : Format) (bytes : List Byte)
  /-- A clock cycle, given by the levels of the input ports (R181). -/
  | cycle (p : PortIn)
  deriving DecidableEq, Repr

/-- The machine. -/
structure State where
  /-- The parameters of this instance; no step changes them (R58; assumption 2). -/
  cfg : Config
  rx : RxSide
  tx : TxSide
  /-- What the environment will do, next step first; arbitrary (R31; assumption 3). -/
  inputs : List Input
  deriving DecidableEq, Repr

/-- Where the machine stops. All of these are safe: the spec gives no transition there. -/
inductive Fault where
  /-- RX_BYTE where `rx_ready` is 0, or the row of another `rx_state` (R110, U12). Raised by the RX_BYTE rows and by a
  received packet. Safe. -/
  | rxByteNotEnabled
  /-- PKT_ACCEPT outside `COMPLETE` (R110, U12). Raised by PKT_ACCEPT. Safe. -/
  | pktAcceptNotEnabled
  /-- RX_CLOSE in `COMPLETE` or `TERMINATED` (R110, U12). Raised by RX_CLOSE. Safe. -/
  | rxCloseNotEnabled
  /-- TX_START in `TX_SEND` (R163, U12). Raised by TX_START and by a packet to be sent. Safe. -/
  | txStartNotEnabled
  /-- TX_FAIL in `TX_IDLE` (R162, U12). Raised by TX_FAIL. Safe. -/
  | txFailNotEnabled
  /-- TX_BYTE in `TX_IDLE` (R161, U12). Raised by TX_BYTE. Safe. -/
  | txByteNotEnabled
  /-- A write to `rx_buf` at an index above 25, a register that does not exist (R13); in no reachable state (R29).
  Raised by RX_BYTE_BODY. Safe. -/
  | rxIndexOutOfRange
  /-- A read of `tx_buf` at an index above 25, a register that does not exist (R20); in no reachable state (R29).
  Raised by TX_BYTE. Safe. -/
  | txIndexOutOfRange
  deriving DecidableEq, Repr

/-- Where the model declines to answer. All of these are safe. -/
inductive Refusal where
  /-- An instruction with no meaning yet. Raised by exec's arms only. Safe. -/
  | notModelled (mnemonic : String)
  /-- Parameters that are not legal (`Config.legal`; U16 "not a legal configuration"; assumption 13). Raised by step. Safe. -/
  | illegalConfig
  /-- An input word that is too short for its format. Raised by step. Safe. -/
  | badWord (e : DecodeError)
  deriving DecidableEq, Repr

/-- What one operation answers. -/
abbrev Result := Host.Outcome State Fault Refusal

/-- The receive side after RESET (R30). `rx_buf` and `rx_timer` are unspecified there; zero is assumption 1. -/
def RxSide.reset : RxSide where
  state := .awaitType
  cnt := 0
  buf := Vector.replicate 26 0
  timer := 0
  dropValid := false
  dropReason := .none
  actions := []

/-- The transmit side after RESET (R30). `tx_buf` and `tx_len` are unspecified there; zero is assumption 1. -/
def TxSide.reset : TxSide where
  state := .idle
  buf := Vector.replicate 26 0
  len := 0
  idx := 0
  done := false
  status := .ok
  actions := []

/-- The machine right after reset (R30), with nothing asked of it yet. -/
def State.reset : State where
  cfg := Config.default
  rx := RxSide.reset
  tx := TxSide.reset
  inputs := []

end Sys2Proof.Machine
end

