-- ==== Sys2Proof/WellFormed.lean ====
section
/-! DEFINITION. Which instruction terms stand for something the encodings can hold. -/

namespace Sys2Proof

/-- The largest length byte the packet format admits, `data(0..22)` (R60, R63). -/
def formatMaxData : Nat := 22

/-- The low six bits of the request codes (class 0b00) and, the same values, of the response codes (class 0b01) that have
rows of their own (R67). -/
def namedCommandCodes : List (BitVec 6) := [0x00, 0x06, 0x09, 0x0E, 0x1F, 0x22]

/-- The low six bits of the report types that have rows of their own (R67). -/
def namedReportCodes : List (BitVec 6) := [0x00, 0x01, 0x02]

/-- A legal transfer holds at most 22 data bytes; an oversize one has a length byte of 23 to 255 (R63). -/
def Transfer.wf : Transfer → Bool
  | .send payload => decide (payload.length ≤ formatMaxData)
  | .sendOversize plen => decide (formatMaxData < plen.toNat)
  | .receive data _ => decide (data.length ≤ formatMaxData)
  | .receiveOversize len => decide (formatMaxData < len.toNat)

/-- Well-formedness: transfers within the format; a catch-all row only for a code that no earlier row of the table takes
(first match, R67); TX_START with exactly 22 payload lanes (R66). -/
def Instr.wf : Instr → Bool
  | .pingReq x | .clearReq x | .setSpriteReq x | .setBacklightReq x | .writeReq x | .setLedReq x => x.wf
  | .pingRsp x | .clearRsp x | .setSpriteRsp x | .setBacklightRsp x | .writeRsp x | .setLedRsp x => x.wf
  | .keyActivityRpt x | .fanSpeedRpt x | .temperatureRpt x => x.wf
  | .reportOther c x => x.wf && !namedReportCodes.contains c
  | .class01Other c x => x.wf && !namedCommandCodes.contains c
  | .class00Other c x => x.wf && !namedCommandCodes.contains c
  | .class11Other _ x => x.wf
  | .reset | .tick | .pktAccept | .rxByteType _ | .rxByteLength _ | .rxByteBody _ | .rxClose => true
  | .txStart _ _ payload => decide (payload.length = 22)
  | .txFail | .txByte => true

end Sys2Proof
end

