-- ==== Sys2Proof/Decode.lean ====
section
/-! DEFINITION. Decoding of the two things 30_encoding.md encodes, the wire packet (R60 to R65) and the event vector (R66),
total on any bytes; after it the encoder, and the words of spec/opcode_table.json. -/

namespace Sys2Proof

open Sys2Proof.Machine (RxState)

/-! ### Fields -/

/-- `class`, bits 7:6 of the type byte (R62). -/
def typeClass (t : Byte) : BitVec 2 := t.extractLsb' 6 2

/-- `code6`, bits 5:0 of the type byte (R62). -/
def typeCode (t : Byte) : BitVec 6 := t.extractLsb' 0 6

/-- The type byte with the given class tag and code (R62). -/
def typeByteOf (cls : BitVec 2) (code6 : BitVec 6) : Byte := cls ++ code6

/-- `k[7:0]`, the CRC byte that travels first (R44). -/
def crcLo (k : Half) : Byte := k.extractLsb' 0 8

/-- `k[15:8]`, the CRC byte that travels second (R44). -/
def crcHi (k : Half) : Byte := k.extractLsb' 8 8

/-- `{hi, lo}` (R6, R64). -/
def halfOf (hi lo : Byte) : Half := hi ++ lo

/-! ### Packets -/

/-- The TYPE row of a type byte: the fifteen named bytes first, then the four classes (R67). -/
def instrOfType (t : Byte) (x : Transfer) : Instr :=
  if t = 0x00 then .pingReq x
  else if t = 0x06 then .clearReq x
  else if t = 0x09 then .setSpriteReq x
  else if t = 0x0E then .setBacklightReq x
  else if t = 0x1F then .writeReq x
  else if t = 0x22 then .setLedReq x
  else if t = 0x40 then .pingRsp x
  else if t = 0x46 then .clearRsp x
  else if t = 0x49 then .setSpriteRsp x
  else if t = 0x4E then .setBacklightRsp x
  else if t = 0x5F then .writeRsp x
  else if t = 0x62 then .setLedRsp x
  else if t = 0x80 then .keyActivityRpt x
  else if t = 0x81 then .fanSpeedRpt x
  else if t = 0x82 then .temperatureRpt x
  else if typeClass t = 0b10 then .reportOther (typeCode t) x
  else if typeClass t = 0b01 then .class01Other (typeCode t) x
  else if typeClass t = 0b00 then .class00Other (typeCode t) x
  else .class11Other (typeCode t) x

/-- A packet at the request port: type, length, then that many payload bytes; above 22 the payload is not looked at
(R63, R160). -/
def decodeRequest : List Byte → Except DecodeError (Instr × List Byte)
  | t :: n :: rest =>
    if formatMaxData < n.toNat then .ok (instrOfType t (.sendOversize n), rest)
    else if rest.length < n.toNat then .error .truncated
    else .ok (instrOfType t (.send (rest.take n.toNat)), rest.drop n.toNat)
  | _ => .error .truncated

/-- A packet on the wire (R65): its length is known after the second byte; an illegal length ends it there. -/
def decodePacket : List Byte → Except DecodeError (Instr × List Byte)
  | t :: n :: rest =>
    if formatMaxData < n.toNat then .ok (instrOfType t (.receiveOversize n), rest)
    else match rest.drop n.toNat with
      | lo :: hi :: rest' => .ok (instrOfType t (.receive (rest.take n.toNat) (halfOf hi lo)), rest')
      | _ => .error .truncated
  | _ => .error .truncated

/-! ### Events -/

/-- The bit of an event in the event vector (R66). -/
def Event.bit : Event → Nat
  | .reset => 0
  | .tick => 1
  | .pktAccept => 2
  | .rxByte => 3
  | .rxClose => 4
  | .txStart => 5
  | .txFail => 6
  | .txByte => 7

/-- The events but RESET, in ascending bit order. -/
def Event.afterReset : List Event :=
  [.tick, .pktAccept, .rxByte, .rxClose, .txStart, .txFail, .txByte]

/-- The events of a vector in the order they are performed: ascending, except that RESET is performed alone (R66, R187). -/
def EventVector.events (v : EventVector) : List Event :=
  if v.ev.getLsbD Event.reset.bit then [.reset]
  else Event.afterReset.filter fun e => v.ev.getLsbD e.bit

/-- The EVENT row of an event. RX_BYTE has three rows, told apart by `rx_state`; in `COMPLETE` and `TERMINATED` it has
none (R66, R110). -/
def EventVector.instr (v : EventVector) (st : RxState) : Event → Option Instr
  | .reset => some .reset
  | .tick => some .tick
  | .pktAccept => some .pktAccept
  | .rxByte => match st with
    | .awaitType => some (.rxByteType v.rxData)
    | .awaitLength => some (.rxByteLength v.rxData)
    | .awaitBody => some (.rxByteBody v.rxData)
    | .complete | .terminated => none
  | .rxClose => some .rxClose
  | .txStart => some (.txStart v.code v.plen v.payload)
  | .txFail => some .txFail
  | .txByte => some .txByte

/-- The bytes of an event word: the vector, then the operand fields `b`, `code`, `plen` and the 22 payload bytes, each at
its own place whether or not its event occurs (assumption 6). -/
def decodeVector : List Byte → Except DecodeError (EventVector × List Byte)
  | ev :: b :: code :: plen :: rest =>
    if rest.length < 22 then .error .truncated
    else .ok (⟨ev, b, code, plen, rest.take 22⟩, rest.drop 22)
  | _ => .error .truncated

/-- An event word that holds one event. -/
def decodeEvent (st : RxState) (bs : List Byte) : Except DecodeError (Instr × List Byte) :=
  match decodeVector bs with
  | .error e => .error e
  | .ok (v, rest) => match v.events with
    | [] => .error .noEvent
    | [e] => match v.instr st e with
      | some i => .ok (i, rest)
      | none => .error .rxByteNotReady
    | _ => .error .severalEvents

/-- The decoder: the first instruction of the bytes and the bytes after it. `rx_state` tells the three RX_BYTE rows
apart (R66). -/
def decode (f : Format) (st : RxState) (bs : List Byte) : Except DecodeError (Instr × List Byte) :=
  match f with
  | .event => decodeEvent st bs
  | .request => decodeRequest bs
  | .packet => decodePacket bs

/-! ### The encoder -/

/-- The type byte of a TYPE row (R62, R67); an EVENT row has none. -/
def Instr.typeByte : Instr → Option Byte
  | .pingReq _ => some 0x00
  | .clearReq _ => some 0x06
  | .setSpriteReq _ => some 0x09
  | .setBacklightReq _ => some 0x0E
  | .writeReq _ => some 0x1F
  | .setLedReq _ => some 0x22
  | .pingRsp _ => some 0x40
  | .clearRsp _ => some 0x46
  | .setSpriteRsp _ => some 0x49
  | .setBacklightRsp _ => some 0x4E
  | .writeRsp _ => some 0x5F
  | .setLedRsp _ => some 0x62
  | .keyActivityRpt _ => some 0x80
  | .fanSpeedRpt _ => some 0x81
  | .temperatureRpt _ => some 0x82
  | .reportOther c _ => some (typeByteOf 0b10 c)
  | .class01Other c _ => some (typeByteOf 0b01 c)
  | .class00Other c _ => some (typeByteOf 0b00 c)
  | .class11Other c _ => some (typeByteOf 0b11 c)
  | .reset | .tick | .pktAccept | .rxByteType _ | .rxByteLength _ | .rxByteBody _ | .rxClose | .txStart _ _ _
  | .txFail | .txByte => none

/-- The transfer of a TYPE row; an EVENT row has none. -/
def Instr.transfer : Instr → Option Transfer
  | .pingReq x | .clearReq x | .setSpriteReq x | .setBacklightReq x | .writeReq x | .setLedReq x => some x
  | .pingRsp x | .clearRsp x | .setSpriteRsp x | .setBacklightRsp x | .writeRsp x | .setLedRsp x => some x
  | .keyActivityRpt x | .fanSpeedRpt x | .temperatureRpt x => some x
  | .reportOther _ x | .class01Other _ x | .class00Other _ x | .class11Other _ x => some x
  | .reset | .tick | .pktAccept | .rxByteType _ | .rxByteLength _ | .rxByteBody _ | .rxClose | .txStart _ _ _
  | .txFail | .txByte => none

/-- The bytes of a packet of type `t` as they travel (R43, R61); a request carries no CRC yet. -/
def encodeTransfer (t : Byte) : Transfer → List Byte
  | .send payload => t :: BitVec.ofNat 8 payload.length :: payload
  | .sendOversize plen => [t, plen]
  | .receive data crc => t :: BitVec.ofNat 8 data.length :: (data ++ [crcLo crc, crcHi crc])
  | .receiveOversize len => [t, len]

/-- The format a transfer is encoded in. -/
def Transfer.format : Transfer → Format
  | .send _ | .sendOversize _ => .request
  | .receive _ _ | .receiveOversize _ => .packet

/-- The vector in which only the given event occurs. -/
def Event.oneHot (e : Event) : Byte := BitVec.twoPow 8 e.bit

/-- An event word with no operands. -/
def encodeBare (e : Event) : List Byte := e.oneHot :: List.replicate 25 0

/-- An RX_BYTE word. -/
def encodeRxByte (b : Byte) : List Byte := Event.rxByte.oneHot :: b :: List.replicate 24 0

/-- The words of an instruction. -/
def encode : Instr → List Byte
  | .pingReq x => encodeTransfer 0x00 x
  | .clearReq x => encodeTransfer 0x06 x
  | .setSpriteReq x => encodeTransfer 0x09 x
  | .setBacklightReq x => encodeTransfer 0x0E x
  | .writeReq x => encodeTransfer 0x1F x
  | .setLedReq x => encodeTransfer 0x22 x
  | .pingRsp x => encodeTransfer 0x40 x
  | .clearRsp x => encodeTransfer 0x46 x
  | .setSpriteRsp x => encodeTransfer 0x49 x
  | .setBacklightRsp x => encodeTransfer 0x4E x
  | .writeRsp x => encodeTransfer 0x5F x
  | .setLedRsp x => encodeTransfer 0x62 x
  | .keyActivityRpt x => encodeTransfer 0x80 x
  | .fanSpeedRpt x => encodeTransfer 0x81 x
  | .temperatureRpt x => encodeTransfer 0x82 x
  | .reportOther c x => encodeTransfer (typeByteOf 0b10 c) x
  | .class01Other c x => encodeTransfer (typeByteOf 0b01 c) x
  | .class00Other c x => encodeTransfer (typeByteOf 0b00 c) x
  | .class11Other c x => encodeTransfer (typeByteOf 0b11 c) x
  | .reset => encodeBare .reset
  | .tick => encodeBare .tick
  | .pktAccept => encodeBare .pktAccept
  | .rxByteType b => encodeRxByte b
  | .rxByteLength b => encodeRxByte b
  | .rxByteBody b => encodeRxByte b
  | .rxClose => encodeBare .rxClose
  | .txStart code plen payload => Event.txStart.oneHot :: 0 :: code :: plen :: payload
  | .txFail => encodeBare .txFail
  | .txByte => encodeBare .txByte

/-- The format an instruction is encoded in. -/
def Instr.format : Instr → Format
  | .pingReq x | .clearReq x | .setSpriteReq x | .setBacklightReq x | .writeReq x | .setLedReq x => x.format
  | .pingRsp x | .clearRsp x | .setSpriteRsp x | .setBacklightRsp x | .writeRsp x | .setLedRsp x => x.format
  | .keyActivityRpt x | .fanSpeedRpt x | .temperatureRpt x => x.format
  | .reportOther _ x | .class01Other _ x | .class00Other _ x | .class11Other _ x => x.format
  | .reset | .tick | .pktAccept | .rxByteType _ | .rxByteLength _ | .rxByteBody _ | .rxClose | .txStart _ _ _
  | .txFail | .txByte => .event

/-- Whether a word of the instruction is read as that instruction in the given `rx_state`: the RX_BYTE rows share their
bit and each belongs to one state (R66). -/
def Instr.readIn (st : RxState) : Instr → Bool
  | .rxByteType _ => st == .awaitType
  | .rxByteLength _ => st == .awaitLength
  | .rxByteBody _ => st == .awaitBody
  | _ => true

/-! ### The words of spec/opcode_table.json -/

/-- The fifteen type bytes with a row of mask 0xFF (R67). -/
def namedTypes : List Byte :=
  [0x00, 0x06, 0x09, 0x0E, 0x1F, 0x22, 0x40, 0x46, 0x49, 0x4E, 0x5F, 0x62, 0x80, 0x81, 0x82]

/-- The vectors of one event that are not named type bytes; 0x40 and 0x80 are both. -/
def eventWords : List Byte := [0x01, 0x02, 0x04, 0x08, 0x10, 0x20]

/-- The table lists TYPE and EVENT rows with 8-bit words of the same values, so a word alone does not say which it is. A
named type byte is read as that packet type, another byte with a single bit set as that event, any other byte as a packet
of its class; class 0b00 as a request, the others as packets from the device, the directions of R67 (assumption 7). -/
def tableFormat (w : Byte) : Format :=
  if !namedTypes.contains w && eventWords.contains w then .event
  else if typeClass w = 0b00 then .request
  else .packet

/-- The bytes of an instruction whose bits are `w` below bit `nbits` and 0 above, the first byte the least significant,
as many as the longest instruction has. -/
def tableBytes (nbits w : Nat) : List Byte :=
  (List.range 26).map fun k => BitVec.ofNat 8 (w % 2 ^ nbits / 256 ^ k)

/-- What the decoder reads from a word of the opcode table, in the `rx_state` of the reset state. -/
def decodeTableWord (nbits w : Nat) : Option Instr :=
  match decode (tableFormat (BitVec.ofNat 8 (w % 2 ^ nbits))) .awaitType (tableBytes nbits w) with
  | .ok (i, _) => some i
  | .error _ => none

end Sys2Proof
end

