-- ==== Sys2Proof/Machine/Ops.lean ====
section
/-! DEFINITION. The operations the meanings share: the two packet buffers, sequencing, raising an error with its recovery
(60_exceptions.md R209) and ending a transmit operation. -/

namespace Sys2Proof.Machine

/-! ### Packet buffers (R13, R20, R23) -/

/-- How many registers a buffer has (`MAX_FRAME`, R13). -/
def bufferSize : Nat := 26

/-- `buf[i]`, for an index the buffer has. -/
def Buffer.byte (buf : Buffer) (i : Nat) : Byte := buf.toList.getD i 0

/-- `buf[i] <- b`. -/
def Buffer.put (buf : Buffer) (i : Nat) (b : Byte) : Buffer := buf.setIfInBounds i b

/-- `buf[i .. i + len(s)) <- s`. -/
def Buffer.write : Buffer → Nat → List Byte → Buffer
  | buf, _, [] => buf
  | buf, i, b :: bs => Buffer.write (buf.put i b) (i + 1) bs

/-- `buf[i .. j)` (R7). -/
def Buffer.slice (buf : Buffer) (i j : Nat) : List Byte := (buf.toList.take j).drop i

/-! ### Sequencing -/

/-- One operation after another; the first fault or refusal ends it. -/
def andThen (o : Result) (f : State → Result) : Result :=
  match o with
  | .next s => f s
  | .fault r => .fault r
  | .refused r => .refused r

/-- A receive-side operation reads the parameters and touches the receive side only (R10, R54). -/
def onRx (op : Config → RxSide → Except Fault RxSide) (s : State) : Result :=
  match op s.cfg s.rx with
  | .ok rx => .next { s with rx := rx }
  | .error e => .fault e

/-- A transmit-side operation reads the parameters and touches the transmit side only (R10, R54). -/
def onTx (op : Config → TxSide → Except Fault TxSide) (s : State) : Result :=
  match op s.cfg s.tx with
  | .ok tx => .next { s with tx := tx }
  | .error e => .fault e

/-! ### Clock edges -/

/-- `drop_valid` is cleared at every rising edge unless an event of the cycle sets it (R189). -/
def RxSide.clearPulse (r : RxSide) : RxSide := { r with dropValid := false }

/-- `tx_done` is cleared at every rising edge unless an event of the cycle sets it (R189). -/
def TxSide.clearPulse (t : TxSide) : TxSide := { t with done := false }

/-- A rising edge, before the events of its cycle. -/
def State.beginCycle (s : State) : State := { s with rx := s.rx.clearPulse, tx := s.tx.clearPulse }

/-! ### Errors and their recovery

Nothing is saved and there is no return operation: recovery is complete when the raising event ends (R209, R210). -/

/-- `raise` of a receive-side error (R201 to R203, R209): `Drop(reason)` is emitted, which sets the pulse registers
(R17), `rx_cnt <- 0`, `rx_state <- AWAIT_TYPE`; `rx_timer` and `rx_buf` stay as they are. -/
def RxSide.drop (reason : DropReason) (r : RxSide) : RxSide :=
  { r with
    state := .awaitType
    cnt := 0
    dropValid := true
    dropReason := reason
    actions := r.actions ++ [.drop reason] }

/-- `TxDone(status)` (R8, R22, R189). By itself it is the whole of `raise PayloadTooLarge` (R204). -/
def TxSide.finish (status : TxStatus) (t : TxSide) : TxSide :=
  { t with done := true, status := status, actions := t.actions ++ [.txDone status] }

/-- The end of sending: `tx_state <- TX_IDLE`, `tx_idx <- 0`, `TxDone(status)`; with `IoError`, `raise IoError`
(R161, R205). -/
def TxSide.stop (status : TxStatus) (t : TxSide) : TxSide :=
  TxSide.finish status { t with state := .idle, idx := 0 }

end Sys2Proof.Machine
end

