-- ==== Sys2Proof/Machine/Checksum.lean ====
section
/-! DEFINITION. The checksum unit of 40_checksum.md: pure functions, nothing of which survives an event. -/

namespace Sys2Proof.Machine

/-- One of the eight shifts of `crc_step` (R90). -/
def crcShift (c : Config) (k : Half) : Half :=
  if k.getLsbD 0 then (k >>> 1) ^^^ c.crcPolyR else k >>> 1

/-- The shift repeated. -/
def crcShifts (c : Config) : Nat → Half → Half
  | 0, k => k
  | n + 1, k => crcShifts c n (crcShift c k)

/-- `crc_step(k, b)` (R90). -/
def crcStep (c : Config) (k : Half) (b : Byte) : Half := crcShifts c 8 (k ^^^ b.setWidth 16)

/-- `crc_raw(s)`: the accumulator after the bytes, before the final XOR (R91). -/
def crcRaw (c : Config) (s : List Byte) : Half := s.foldl (crcStep c) c.crcInit

/-- `crc16(s)` (R91). -/
def crc16 (c : Config) (s : List Byte) : Half := crcRaw c s ^^^ c.crcXorOut

/-- `append(s)` (R92): the CRC in little-endian order after the bytes. -/
def appendCrc (c : Config) (s : List Byte) : List Byte :=
  s ++ [crcLo (crc16 c s), crcHi (crc16 c s)]

/-- `strip_and_verify(s)` (R93); it fails closed on fewer than two bytes. -/
def stripAndVerify (c : Config) (s : List Byte) : List Byte × Bool :=
  if s.length < 2 then ([], false)
  else
    let d := s.take (s.length - 2)
    (d, s.drop (s.length - 2) == [crcLo (crc16 c d), crcHi (crc16 c d)])

end Sys2Proof.Machine
end

