-- ==== Sys2Proof/Machine/Flags.lean ====
section
/-! DEFINITION. The status outputs (10_state.md R16 to R18, R22, R25; 44_transport.md R188): functions of the state. An
output that "holds no value" is `none` (R240; assumption 14). -/

namespace Sys2Proof.Machine

/-! ### One-bit outputs (R25, R188) -/

/-- `rx_ready` (R183). -/
def State.rxReady (s : State) : Bool :=
  s.rx.state == .awaitType || s.rx.state == .awaitLength || s.rx.state == .awaitBody

/-- `pkt_valid` (R16, R184). -/
def State.pktValid (s : State) : Bool := s.rx.state == .complete

/-- `rx_terminated` (R18). -/
def State.rxTerminated (s : State) : Bool := s.rx.state == .terminated

/-- `drop_valid` (R17). -/
def State.dropValid (s : State) : Bool := s.rx.dropValid

/-- `txq_ready` (R22, R185). -/
def State.txqReady (s : State) : Bool := s.tx.state == .idle

/-- `tx_valid` (R22, R185). -/
def State.txValid (s : State) : Bool := s.tx.state == .send

/-- `tx_done` (R22). -/
def State.txDone (s : State) : Bool := s.tx.done

/-! ### The class tag (R140, R141) -/

/-- A type byte whose class tag is `REPORT_CLASS` marks a report, every other one a response (R140). -/
def isReport (c : Config) (t : Byte) : Bool := typeClass t == c.reportClass

/-! ### Fields of the held packet (R13, R15) -/

/-- `rx_buf[0 .. rx_cnt)`, the meaningful bytes. -/
def RxSide.held (r : RxSide) : List Byte := r.buf.slice 0 r.cnt.toNat

/-- The packet a buffer holds, as `Deliver` and the `pkt_*` outputs show it (R16, R115): the type byte, the length on 5
bits, exactly that many data bytes, the class tag; not the CRC. -/
def RxSide.packet (c : Config) (r : RxSide) : Packet where
  type := r.buf.byte 0
  len := (r.buf.byte 1).setWidth 5
  data := r.buf.slice 2 (2 + (r.buf.byte 1).toNat)
  isReport := isReport c (r.buf.byte 0)

/-! ### Outputs with values -/

/-- The `pkt_*` outputs together. -/
def State.pktOut (s : State) : Option Packet :=
  if s.pktValid then some (s.rx.packet s.cfg) else none

/-- `pkt_type`. -/
def State.pktType (s : State) : Option Byte := s.pktOut.map Packet.type

/-- `pkt_len`. -/
def State.pktLen (s : State) : Option Count := s.pktOut.map Packet.len

/-- Lane `i` of `pkt_data`: a value only below `pkt_len`. -/
def State.pktData (s : State) (i : Nat) : Option Byte := s.pktOut.bind fun p => p.data[i]?

/-- `pkt_is_report`. -/
def State.pktIsReport (s : State) : Option Bool := s.pktOut.map Packet.isReport

/-- `drop_reason` while `drop_valid` is 1. -/
def State.dropReasonOut (s : State) : Option DropReason :=
  if s.rx.dropValid then some s.rx.dropReason else none

/-- `tx_status` while `tx_done` is 1. -/
def State.txStatusOut (s : State) : Option TxStatus :=
  if s.tx.done then some s.tx.status else none

/-- `tx_data` while `tx_valid` is 1. -/
def State.txData (s : State) : Option Byte :=
  if s.txValid then some (s.tx.buf.byte s.tx.idx.toNat) else none

/-- The transmit stream: the bytes that have left, oldest first (R42). -/
def TxSide.stream (t : TxSide) : List Byte :=
  t.actions.filterMap fun
    | .txOut b => some b
    | .txDone _ => none

/-- The statuses reported at the transmit status port, oldest first (R22). -/
def TxSide.reported (t : TxSide) : List TxStatus :=
  t.actions.filterMap fun
    | .txDone x => some x
    | .txOut _ => none

/-- The packets handed to the consumer, oldest first (R115). -/
def RxSide.delivered (r : RxSide) : List Packet :=
  r.actions.filterMap fun
    | .deliver p => some p
    | .drop _ => none

/-- The reasons reported at the drop port, oldest first (R17). -/
def RxSide.dropped (r : RxSide) : List DropReason :=
  r.actions.filterMap fun
    | .drop d => some d
    | .deliver _ => none

/-! ### Register encodings (R11, R19, R26, R200) -/

/-- The 3-bit value of `rx_state` (R11). -/
def RxState.code : RxState → BitVec 3
  | .awaitType => 0
  | .awaitLength => 1
  | .awaitBody => 2
  | .complete => 3
  | .terminated => 4

/-- The 1-bit value of `tx_state` (R19). -/
def TxState.code : TxState → BitVec 1
  | .idle => 0
  | .send => 1

/-- The 2-bit value of `drop_reason` (R26, R200). -/
def DropReason.code : DropReason → BitVec 2
  | .none => 0
  | .badLength => 1
  | .badCrc => 2
  | .timeout => 3

/-- The 2-bit value of `tx_status` (R26, R200). -/
def TxStatus.code : TxStatus → BitVec 2
  | .ok => 0
  | .payloadTooLarge => 1
  | .ioError => 2

end Sys2Proof.Machine
end

