-- ==== Sys2Proof/Machine/Operands.lean ====
section
/-! DEFINITION. The operand forms: the lanes of the request bus, the operands of a clock cycle's events, and the bytes a
transfer puts on the wire. -/

namespace Sys2Proof.Machine

/-- Byte lane `i` of a 22-lane bus: bits `8i+7 : 8i` (R181). -/
def lane (v : Lanes) (i : Nat) : Byte := v.extractLsb' (8 * i) 8

/-- The 22 lanes of `txq_payload` as the operand `payload` of TX_START (R160, R181). -/
def payloadOf (v : Lanes) : List Byte := (List.range 22).map (lane v)

/-- A bus that carries the given bytes from lane 0 upward. -/
def lanesOf : List Byte → Lanes
  | [] => 0
  | b :: bs => (lanesOf bs <<< 8) ||| b.setWidth 176

/-- The bytes before the CRC of a packet to be sent: `[code, plen] ++ payload[0 .. plen)` (R160). -/
def requestBody (code plen : Byte) (payload : List Byte) : List Byte :=
  code :: plen :: payload.take plen.toNat

end Sys2Proof.Machine
end

