-- ==== Sys2Proof/Machine/Receive.lean ====
section
/-! DEFINITION. The receive framer of 41_rx_framer.md: RX_BYTE in its three states, TICK, PKT_ACCEPT, RX_CLOSE. -/

namespace Sys2Proof.Machine

/-- RX_BYTE in `AWAIT_TYPE` (R111): every byte is accepted as a type byte and starts the window. -/
def rxByteType (b : Byte) (c : Config) (r : RxSide) : Except Fault RxSide :=
  if r.state = .awaitType then
    .ok { r with buf := r.buf.put 0 b, cnt := 1, timer := c.timeoutTicks, state := .awaitLength }
  else .error .rxByteNotEnabled

/-- RX_BYTE in `AWAIT_LENGTH` (R112): a length above `MAX_DATA` raises `BadLength` at once. -/
def rxByteLength (b : Byte) (c : Config) (r : RxSide) : Except Fault RxSide :=
  if r.state = .awaitLength then
    if c.maxData < b.toNat then .ok (r.drop .badLength)
    else .ok { r with buf := r.buf.put 1 b, cnt := 2, state := .awaitBody }
  else .error .rxByteNotEnabled

/-- `rx_buf[rx_cnt] <- b; rx_cnt <- rx_cnt + 1` (R113). -/
def RxSide.store (b : Byte) (r : RxSide) : RxSide :=
  { r with buf := r.buf.put r.cnt.toNat b, cnt := r.cnt + 1 }

/-- The rest of R113: when the byte just stored was `crc_hi` the buffer is verified, once, and the packet is complete or
`BadCrc` is raised. -/
def RxSide.judge (c : Config) (r : RxSide) : RxSide :=
  if r.cnt.toNat = (r.buf.byte 1).toNat + 4 then
    if (stripAndVerify c r.held).2 then { r with state := .complete } else r.drop .badCrc
  else r

/-- RX_BYTE in `AWAIT_BODY` (R113). -/
def rxByteBody (b : Byte) (c : Config) (r : RxSide) : Except Fault RxSide :=
  if r.state = .awaitBody then
    if r.cnt.toNat < bufferSize then .ok ((r.store b).judge c) else .error .rxIndexOutOfRange
  else .error .rxByteNotEnabled

/-- RX_BYTE, by `rx_state` (R110). -/
def rxByte (b : Byte) (c : Config) (r : RxSide) : Except Fault RxSide :=
  match r.state with
  | .awaitType => rxByteType b c r
  | .awaitLength => rxByteLength b c r
  | .awaitBody => rxByteBody b c r
  | .complete | .terminated => .error .rxByteNotEnabled

/-- Whether a window is running: in `AWAIT_LENGTH` and `AWAIT_BODY` (R114, R212). -/
def RxSide.windowRuns (r : RxSide) : Bool := r.state == .awaitLength || r.state == .awaitBody

/-- TICK (R114): enabled everywhere; counts down a running window and raises `Timeout` at its last tick. -/
def rxTick (_ : Config) (r : RxSide) : Except Fault RxSide :=
  if r.windowRuns then
    if r.timer ≤ 1 then .ok (r.drop .timeout) else .ok { r with timer := r.timer - 1 }
  else .ok r

/-- EXPIRE, which replaces TICK in a model without time (R123): enabled while a window runs. -/
def rxExpire (r : RxSide) : Option RxSide :=
  if r.windowRuns then some (r.drop .timeout) else none

/-- PKT_ACCEPT (R115): the consumer takes the completed packet. -/
def rxAccept (c : Config) (r : RxSide) : Except Fault RxSide :=
  if r.state = .complete then
    .ok { r with actions := r.actions ++ [.deliver (r.packet c)], cnt := 0, state := .awaitType }
  else .error .pktAcceptNotEnabled

/-- RX_CLOSE (R116): a partial packet is discarded with no `Drop`. -/
def rxClose (_ : Config) (r : RxSide) : Except Fault RxSide :=
  if r.state = .awaitType ∨ r.state = .awaitLength ∨ r.state = .awaitBody then
    .ok { r with cnt := 0, state := .terminated }
  else .error .rxCloseNotEnabled

/-- Bytes of the receive stream taken in order (R41), one RX_BYTE a clock cycle: the directive `RX b0 b1 ...` (R69). -/
def receiveBytes : List Byte → State → Result
  | [], s => .next s
  | b :: bs, s => andThen (onRx (rxByte b) s.beginCycle) (receiveBytes bs)

/-! ### Meanings -/

/-- TICK (R114). -/
def execTick (s : State) : Result := onRx rxTick s

/-- PKT_ACCEPT (R115). -/
def execPktAccept (s : State) : Result := onRx rxAccept s

/-- RX_BYTE in `AWAIT_TYPE` (R111). -/
def execRxByteType (b : Byte) (s : State) : Result := onRx (rxByteType b) s

/-- RX_BYTE in `AWAIT_LENGTH` (R112). -/
def execRxByteLength (b : Byte) (s : State) : Result := onRx (rxByteLength b) s

/-- RX_BYTE in `AWAIT_BODY` (R113). -/
def execRxByteBody (b : Byte) (s : State) : Result := onRx (rxByteBody b) s

/-- RX_CLOSE (R116). -/
def execRxClose (s : State) : Result := onRx rxClose s

end Sys2Proof.Machine
end

