-- ==== Sys2Proof/Machine/Transmit.lean ====
section
/-! DEFINITION. The transmit framer of 43_tx_framer.md: TX_START, TX_BYTE, TX_FAIL. -/

namespace Sys2Proof.Machine

/-- TX_START (R160): a payload above `MAX_DATA` is refused before any byte is written, with no other change; otherwise
the packet is built with its CRC and sending begins. Any code is sent as given (R164). -/
def txStart (code plen : Byte) (payload : List Byte) (c : Config) (t : TxSide) : Except Fault TxSide :=
  if t.state = .idle then
    if c.maxData < plen.toNat then .ok (t.finish .payloadTooLarge)
    else
      .ok { t with
        buf := t.buf.write 0 (appendCrc c (requestBody code plen payload))
        len := plen.setWidth 5 + 4
        idx := 0
        state := .send }
  else .error .txStartNotEnabled

/-- `TxOut(tx_buf[tx_idx]); tx_idx <- tx_idx + 1` (R161). -/
def TxSide.emit (t : TxSide) : TxSide :=
  { t with actions := t.actions ++ [.txOut (t.buf.byte t.idx.toNat)], idx := t.idx + 1 }

/-- TX_BYTE (R161). -/
def txByte (_ : Config) (t : TxSide) : Except Fault TxSide :=
  if t.state = .send then
    if t.idx.toNat < bufferSize then
      .ok (if t.emit.idx = t.emit.len then t.emit.stop .ok else t.emit)
    else .error .txIndexOutOfRange
  else .error .txByteNotEnabled

/-- TX_FAIL (R162): `raise IoError`; the bytes not yet sent are never sent, the failure is not remembered. -/
def txFail (_ : Config) (t : TxSide) : Except Fault TxSide :=
  if t.state = .send then .ok (t.stop .ioError) else .error .txFailNotEnabled

/-! ### Meanings -/

/-- TX_START (R160). -/
def execTxStart (code plen : Byte) (payload : List Byte) (s : State) : Result :=
  onTx (txStart code plen payload) s

/-- TX_BYTE (R161). -/
def execTxByte (s : State) : Result := onTx txByte s

/-- TX_FAIL (R162). -/
def execTxFail (s : State) : Result := onTx txFail s

end Sys2Proof.Machine
end

