-- ==== Sys2Proof/Machine/PacketTypes.lean ====
section
/-! DEFINITION. What a packet of each type does (42_packet_types.md R142 to R144, R147). The block treats all 256 type bytes
alike but for the class tag (R147): a request of any type is the directive `SEND` (R69, R160), a packet from the device of
any type is its bytes taken by the receive framer (R69, R70, R111 to R113). -/

namespace Sys2Proof.Machine

/-- A packet of type `t` crosses the block: to the device it is one TX_START; from the device it is the RX_BYTE events of
its bytes, after which it waits in `COMPLETE` with its class tag shown, or has been dropped (assumption 5). -/
def transfer (t : Byte) (x : Transfer) (s : State) : Result :=
  match x with
  | .send payload => onTx (txStart t (BitVec.ofNat 8 payload.length) payload) s
  | .sendOversize plen => onTx (txStart t plen []) s
  | .receive data crc => receiveBytes (encodeTransfer t (.receive data crc)) s
  | .receiveOversize len => receiveBytes (encodeTransfer t (.receiveOversize len)) s

/-- R142, ping request. -/
def execPingReq (x : Transfer) (s : State) : Result := transfer 0x00 x s

/-- R142, clear request. -/
def execClearReq (x : Transfer) (s : State) : Result := transfer 0x06 x s

/-- R142, set-sprite request. -/
def execSetSpriteReq (x : Transfer) (s : State) : Result := transfer 0x09 x s

/-- R142, set-backlight request. -/
def execSetBacklightReq (x : Transfer) (s : State) : Result := transfer 0x0E x s

/-- R142, write request. -/
def execWriteReq (x : Transfer) (s : State) : Result := transfer 0x1F x s

/-- R142, set-led request. -/
def execSetLedReq (x : Transfer) (s : State) : Result := transfer 0x22 x s

/-- R143, ping response. -/
def execPingRsp (x : Transfer) (s : State) : Result := transfer 0x40 x s

/-- R143, clear response. -/
def execClearRsp (x : Transfer) (s : State) : Result := transfer 0x46 x s

/-- R143, set-sprite response. -/
def execSetSpriteRsp (x : Transfer) (s : State) : Result := transfer 0x49 x s

/-- R143, set-backlight response. -/
def execSetBacklightRsp (x : Transfer) (s : State) : Result := transfer 0x4E x s

/-- R143, write response. -/
def execWriteRsp (x : Transfer) (s : State) : Result := transfer 0x5F x s

/-- R143, set-led response. -/
def execSetLedRsp (x : Transfer) (s : State) : Result := transfer 0x62 x s

/-- R144, key activity report. -/
def execKeyActivityRpt (x : Transfer) (s : State) : Result := transfer 0x80 x s

/-- R144, fan speed report. -/
def execFanSpeedRpt (x : Transfer) (s : State) : Result := transfer 0x81 x s

/-- R144, temperature report. -/
def execTemperatureRpt (x : Transfer) (s : State) : Result := transfer 0x82 x s

/-- R147: a report D0 does not name. -/
def execReportOther (code6 : BitVec 6) (x : Transfer) (s : State) : Result := transfer (typeByteOf 0b10 code6) x s

/-- R147: a response D0 does not name. -/
def execClass01Other (code6 : BitVec 6) (x : Transfer) (s : State) : Result := transfer (typeByteOf 0b01 code6) x s

/-- R147: a request code D0 does not name. -/
def execClass00Other (code6 : BitVec 6) (x : Transfer) (s : State) : Result := transfer (typeByteOf 0b00 code6) x s

/-- R147: a class D0 gives no meaning. -/
def execClass11Other (code6 : BitVec 6) (x : Transfer) (s : State) : Result := transfer (typeByteOf 0b11 code6) x s

end Sys2Proof.Machine
end

