-- ==== Sys2Proof/Machine/Reset.lean ====
section
/-! DEFINITION. RESET (70_reset_and_hazards.md R230). -/

namespace Sys2Proof.Machine

/-- RESET on the receive side: `rx_buf` and `rx_timer` are not written (R230). -/
def RxSide.toReset (r : RxSide) : RxSide :=
  { r with state := .awaitType, cnt := 0, dropValid := false, dropReason := .none }

/-- RESET on the transmit side: `tx_buf` and `tx_len` are not written (R230). -/
def TxSide.toReset (t : TxSide) : TxSide :=
  { t with state := .idle, idx := 0, done := false, status := .ok }

/-- RESET: the whole block; what has been delivered and sent stays so (R56, R230). -/
def execReset (s : State) : Result := .next { s with rx := s.rx.toReset, tx := s.tx.toReset }

end Sys2Proof.Machine
end

