-- ==== Sys2Proof/Machine/Dispatch.lean ====
section
/-! DEFINITION. One arm per row of spec/opcode_table.json. -/

namespace Sys2Proof.Machine

def exec (i : Instr) (s : State) : Host.Outcome State Fault Refusal :=
  match i with
  | .pingReq x => Sys2Proof.Machine.execPingReq x s
  | .clearReq x => Sys2Proof.Machine.execClearReq x s
  | .setSpriteReq x => Sys2Proof.Machine.execSetSpriteReq x s
  | .setBacklightReq x => Sys2Proof.Machine.execSetBacklightReq x s
  | .writeReq x => Sys2Proof.Machine.execWriteReq x s
  | .setLedReq x => Sys2Proof.Machine.execSetLedReq x s
  | .pingRsp x => Sys2Proof.Machine.execPingRsp x s
  | .clearRsp x => Sys2Proof.Machine.execClearRsp x s
  | .setSpriteRsp x => Sys2Proof.Machine.execSetSpriteRsp x s
  | .setBacklightRsp x => Sys2Proof.Machine.execSetBacklightRsp x s
  | .writeRsp x => Sys2Proof.Machine.execWriteRsp x s
  | .setLedRsp x => Sys2Proof.Machine.execSetLedRsp x s
  | .keyActivityRpt x => Sys2Proof.Machine.execKeyActivityRpt x s
  | .fanSpeedRpt x => Sys2Proof.Machine.execFanSpeedRpt x s
  | .temperatureRpt x => Sys2Proof.Machine.execTemperatureRpt x s
  | .reportOther code6 x => Sys2Proof.Machine.execReportOther code6 x s
  | .class01Other code6 x => Sys2Proof.Machine.execClass01Other code6 x s
  | .class00Other code6 x => Sys2Proof.Machine.execClass00Other code6 x s
  | .class11Other code6 x => Sys2Proof.Machine.execClass11Other code6 x s
  | .reset => Sys2Proof.Machine.execReset s
  | .tick => Sys2Proof.Machine.execTick s
  | .pktAccept => Sys2Proof.Machine.execPktAccept s
  | .rxByteType b => Sys2Proof.Machine.execRxByteType b s
  | .rxByteLength b => Sys2Proof.Machine.execRxByteLength b s
  | .rxByteBody b => Sys2Proof.Machine.execRxByteBody b s
  | .rxClose => Sys2Proof.Machine.execRxClose s
  | .txStart code plen payload => Sys2Proof.Machine.execTxStart code plen payload s
  | .txFail => Sys2Proof.Machine.execTxFail s
  | .txByte => Sys2Proof.Machine.execTxByte s

end Sys2Proof.Machine
end

