-- ==== Sys2Proof/Machine/Ports.lean ====
section
/-! DEFINITION. From the port signals of a clock cycle to its event vector (44_transport.md R187), the output
ports (R181), and the handshake rules the environment and the block owe each other (R182, R183). -/

namespace Sys2Proof.Machine

/-- The event vector of a cycle whose inputs are `p`, with the outputs as the state at the start of the cycle drives
them (R187). -/
def PortIn.vector (p : PortIn) (s : State) : EventVector where
  ev := BitVec.ofBoolListLE [
    p.rst,
    p.tick,
    s.pktValid && p.pktReady,
    p.rxValid && s.rxReady,
    p.rxClosed && s.rxReady && !p.rxValid,
    p.txqValid && s.txqReady,
    s.txValid && p.txFail,
    s.txValid && p.txReady && !p.txFail]
  rxData := p.rxData
  code := p.txqCode
  plen := p.txqPlen
  payload := payloadOf p.txqPayload

/-- The output ports as the block drives them in state `s` (R181, R188, R189). -/
def State.ports (s : State) : PortOut where
  rxReady := s.rxReady
  txValid := s.txValid
  txData := s.txData
  pktValid := s.pktValid
  pktType := s.pktType
  pktLen := s.pktLen
  pktData := (List.range 22).map s.pktData
  pktIsReport := s.pktIsReport
  dropValid := s.dropValid
  dropReason := s.dropReasonOut.map DropReason.code
  rxTerminated := s.rxTerminated
  txqReady := s.txqReady
  txDone := s.txDone
  txStatus := s.txStatusOut.map TxStatus.code

/-- A cycle in which every input is 0: nothing occurs. -/
def PortIn.quiet : PortIn where
  rst := false
  tick := false
  rxValid := false
  rxData := 0
  rxClosed := false
  txReady := false
  txFail := false
  pktReady := false
  txqValid := false
  txqCode := 0
  txqPlen := 0
  txqPayload := 0

/-- What the sources outside the block owe from one cycle `p`, begun in state `s`, to the next cycle `p'` (R181, R182): a
`valid` once raised stays, with its data, until the transfer; `rx_closed` once 1 stays 1 until `rst`; nothing is offered
while `rst` is 1 (R230). The block checks none of this (U14, U15; assumption 16). -/
def PortIn.sourcesHold (s : State) (p p' : PortIn) : Bool :=
  (!(p.rxValid && !s.rxReady) || (p'.rxValid && p'.rxData == p.rxData)) &&
  (!(p.txqValid && !s.txqReady) ||
    (p'.txqValid && p'.txqCode == p.txqCode && p'.txqPlen == p.txqPlen && p'.txqPayload == p.txqPayload)) &&
  (!p.rxClosed || p.rst || p'.rxClosed) &&
  (!p.rst || (!p.rxValid && !p.txqValid))

end Sys2Proof.Machine
end

