-- ==== Sys2Proof/Machine/Cycle.lean ====
section
/-! DEFINITION. One clock cycle: the events of a vector performed in order (30_encoding.md R66, 44_transport.md R187), and
what each input of the environment makes the block do. -/

namespace Sys2Proof.Machine

/-- Whether an event is enabled (R110, R160 to R163, R230): a function of the block's outputs. -/
def eventEnabled (s : State) : Event → Bool
  | .reset | .tick => true
  | .pktAccept => s.pktValid
  | .rxByte | .rxClose => s.rxReady
  | .txStart => s.txqReady
  | .txFail | .txByte => s.txValid

/-- What stops an event that is not enabled (U12). RESET and TICK are always enabled; their lines are never reached. -/
def notEnabledFault : Event → Fault
  | .pktAccept => .pktAcceptNotEnabled
  | .reset | .tick | .rxByte => .rxByteNotEnabled
  | .rxClose => .rxCloseNotEnabled
  | .txStart => .txStartNotEnabled
  | .txFail => .txFailNotEnabled
  | .txByte => .txByteNotEnabled

/-- One event, with the operands of the vector: the instruction of its row in the present `rx_state`. -/
def perform (v : EventVector) (e : Event) (s : State) : Result :=
  match v.instr s.rx.state e with
  | some i => exec i s
  | none => .fault (notEnabledFault e)

/-- Events one after another, each on the state the previous one left; one that is not enabled does not occur and the
others go on (R187, U12). -/
def performAll (v : EventVector) : List Event → State → Result
  | [], s => .next s
  | e :: es, s => if eventEnabled s e then andThen (perform v e s) (performAll v es) else performAll v es s

/-- The events of a vector. A vector whose first event is not enabled, nor any other, is stuck: the spec has no transition
for it (U12, R69). -/
def performVector (v : EventVector) (s : State) : Result :=
  match v.events with
  | [] => .next s
  | e :: es => if (e :: es).any (eventEnabled s) then performAll v (e :: es) s else .fault (notEnabledFault e)

/-- What a word makes the block do. DESIGN CHOICE: a word holds one instruction, and bytes it has after that (after the
event operands, after a packet's last byte, or after an illegal length byte) are dropped with the word; they are no part of
the receive stream (assumption 24). The spec has no such words. -/
def runWord (f : Format) (bytes : List Byte) (s : State) : Result :=
  match f with
  | .event => match decodeVector bytes with
    | .ok (v, _) => performVector v s
    | .error e => .refused (.badWord e)
  | .request | .packet => match decode f s.rx.state bytes with
    | .ok (i, _) => exec i s
    | .error e => .refused (.badWord e)

/-- What an input makes the block do. -/
def runInput (x : Input) (s : State) : Result :=
  match x with
  | .word f bytes => runWord f bytes s
  | .cycle p => performVector (p.vector s) s

/-- One cycle: the rising edge, then what the next input asks for. With no input to come the cycle's inputs are all 0
(assumption 3). -/
def runCycle (s : State) : Result :=
  match s.inputs with
  | [] => runInput (.cycle .quiet) s.beginCycle
  | x :: rest => runInput x { s.beginCycle with inputs := rest }

/-- The word of the opcode table as an input (see `tableFormat`). -/
def tableInput (nbits w : Nat) : Input :=
  .word (tableFormat (BitVec.ofNat 8 (w % 2 ^ nbits))) (tableBytes nbits w)

end Sys2Proof.Machine
end

