-- ==== Sys2Proof/Machine/Step.lean ====
section
/-! DEFINITION. The step: one clock cycle of a legally configured block. -/

namespace Sys2Proof.Machine

/-- One step: the next input, in one clock cycle. Parameters that are not legal are refused (U16; assumption 13). -/
def step (s : State) : Host.Outcome State Fault Refusal :=
  if s.cfg.legal then runCycle s else .refused .illegalConfig

/-- `s` with a word of the opcode table as its next input. -/
def State.withFetchWord (s : State) (nbits w : Nat) : State :=
  { s with inputs := tableInput nbits w :: s.inputs }

end Sys2Proof.Machine
end

