-- ==== Sys2Proof/Machine/Report.lean ====
section
/-! DEFINITION. What the data bytes of the three named reports mean to the layers above the block (42_packet_types.md
R145). The block delivers these bytes unexamined; nothing of the machine calls this file. -/

namespace Sys2Proof.Machine

/-- A reading of a report's data bytes, or the decoder's error for it. -/
inductive Reading where
  /-- Key 1 to 6 pressed. -/
  | keyPressed (key : Nat)
  /-- Key 1 to 6 released. -/
  | keyReleased (key : Nat)
  /-- An unknown-key error. -/
  | unknownKey
  /-- Sensor index, tach-cycle count, timer ticks. -/
  | fanSpeed (sensor tach : Byte) (ticks : Half)
  /-- The hardware-absent error. -/
  | fanAbsent
  /-- Sensor index and raw value in 1/16 degrees; whether it is signed is not in the source (N20). -/
  | temperature (sensor : Byte) (raw : Half)
  /-- The sensor-fault error. -/
  | sensorFault
  deriving DecidableEq, Repr

/-- `[k]` (R145). -/
def readKey (k : Byte) : Reading :=
  if k.toNat = 0 ∨ 12 < k.toNat then .unknownKey
  else if k.toNat ≤ 6 then .keyPressed k.toNat
  else .keyReleased (k.toNat - 6)

/-- `[sensor, tach, ticks_hi, ticks_lo]` (R145): big-endian (R46). -/
def readFan (sensor tach hi lo : Byte) : Reading :=
  if tach = 0 ∧ hi = 0 ∧ lo = 0 then .fanAbsent else .fanSpeed sensor tach (halfOf hi lo)

/-- `[sensor, raw_hi, raw_lo, status]` (R145): big-endian (R46). -/
def readTemperature (sensor hi lo status : Byte) : Reading :=
  if status = 0 then .sensorFault else .temperature sensor (halfOf hi lo)

/-- The reading of a report with one of the three named types and the payload length its type calls for; none otherwise. -/
def readReport (type : Byte) (data : List Byte) : Option Reading :=
  match data with
  | [k] => if type = 0x80 then some (readKey k) else none
  | [a, b, c, d] =>
    if type = 0x81 then some (readFan a b c d)
    else if type = 0x82 then some (readTemperature a b c d)
    else none
  | _ => none

end Sys2Proof.Machine
end

