-- ==== Sys2Proof/Machine/Trace.lean ====
section
/-! DEFINITION. Traces, the block's "assembly" (30_encoding.md R69, R70): each directive as the inputs it stands for. -/

namespace Sys2Proof.Machine

/-- The directives of R69 and the pseudo-directive RXPKT of R70. -/
inductive Directive where
  | reset
  | tick (n : Nat)
  | rx (bytes : List Byte)
  | accept
  | close
  | send (code : Byte) (payload : List Byte)
  | txb (n : Nat)
  | txfail
  | rxpkt (type : Byte) (data : List Byte)
  deriving DecidableEq, Repr

/-- The word of one event. -/
def eventInput (i : Instr) : Input := .word .event (encode i)

/-- The number of listed bytes as a length byte. DESIGN CHOICE: a list of more than 255 bytes, whose number no byte holds,
counts as 255, above `MAX_DATA` like the number itself (assumption 25). -/
def countByte (bytes : List Byte) : Byte := BitVec.ofNat 8 (min bytes.length 255)

/-- The words a directive stands for, one event each (R69, R70). -/
def Directive.inputs (c : Config) : Directive → List Input
  | .reset => [eventInput .reset]
  | .tick n => List.replicate n (eventInput .tick)
  | .rx bytes => bytes.map fun b => eventInput (.rxByteType b)
  | .accept => [eventInput .pktAccept]
  | .close => [eventInput .rxClose]
  | .send code payload =>
    [eventInput (.txStart code (countByte payload) (payload.take 22 ++ List.replicate (22 - payload.length) 0))]
  | .txb n => List.replicate n (eventInput .txByte)
  | .txfail => [eventInput .txFail]
  | .rxpkt type data =>
    (appendCrc c (type :: countByte data :: data)).map fun b => eventInput (.rxByteType b)

/-- The inputs of a whole trace. -/
def traceInputs (c : Config) (ds : List Directive) : List Input := ds.flatMap (Directive.inputs c)

end Sys2Proof.Machine
end

