-- ==== Sys2Proof/Machine/Parse.lean ====
section
/-! DEFINITION. The framer as a pure function of the bytes received, `parse` (41_rx_framer.md R120). -/

namespace Sys2Proof.Machine

/-- The first frame of the bytes: the packet it delivers, if any, and the bytes after it. None while the bytes hold no
whole frame. A length byte above `MAX_DATA` ends the frame (BadLength); a wrong CRC consumes it whole (BadCrc). -/
def takeFrame (c : Config) : List Byte → Option (List Packet × List Byte)
  | t :: n :: rest =>
    if c.maxData < n.toNat then some ([], rest)
    else if rest.length < n.toNat + 2 then none
    else
      let packets :=
        if (stripAndVerify c (t :: n :: rest.take (n.toNat + 2))).2 then
          [{ type := t, len := n.setWidth 5, data := rest.take n.toNat, isReport := isReport c t }]
        else []
      some (packets, rest.drop (n.toNat + 2))
  | _ => none

/-- The packets of at most `fuel` frames. -/
def parseBound (c : Config) : Nat → List Byte → List Packet
  | 0, _ => []
  | fuel + 1, s => match takeFrame c s with
    | some (packets, rest) => packets ++ parseBound c fuel rest
    | none => []

/-- What is left after at most `fuel` frames. -/
def leftoverBound (c : Config) : Nat → List Byte → List Byte
  | 0, s => s
  | fuel + 1, s => match takeFrame c s with
    | some (_, rest) => leftoverBound c fuel rest
    | none => s

/-- `parse(s)` (R120): the packets delivered from the bytes `s`. A frame takes at least two bytes, so `len(s)` bounds
their number. -/
def parse (c : Config) (s : List Byte) : List Packet := parseBound c s.length s

/-- The bytes of `s` that `parse` has not consumed. -/
def leftover (c : Config) (s : List Byte) : List Byte := leftoverBound c s.length s

/-- PKT_ACCEPT if a packet waits: a consumer that is always ready (R117). -/
def acceptIfComplete (s : State) : Result :=
  if s.pktValid then execPktAccept s else .next s

/-- Bytes fed to the framer with the consumer accepting every packet before the next byte is taken (R120). -/
def feed : List Byte → State → Result
  | [], s => acceptIfComplete s
  | b :: bs, s => andThen (acceptIfComplete s) fun s => andThen (onRx (rxByte b) s) (feed bs)

end Sys2Proof.Machine
end

