-- ==== Sys2Proof/Safety.lean ====
section
/-! DEFINITION. The terms claims are stated in: the invariants of R29, which bytes can be told apart, the transition table
of R119, quiescence (R244), and short runs. -/

namespace Sys2Proof.Machine

/-! ### Invariants (10_state.md R29) -/

/-- R29 (a), with R12: `rx_cnt` in each `rx_state`. -/
abbrev RxSide.CountOk (r : RxSide) : Prop :=
  (r.state = .awaitType → r.cnt.toNat = 0) ∧
  (r.state = .awaitLength → r.cnt.toNat = 1) ∧
  (r.state = .awaitBody → 2 ≤ r.cnt.toNat ∧ r.cnt.toNat ≤ (r.buf.byte 1).toNat + 3) ∧
  (r.state = .complete → r.cnt.toNat = (r.buf.byte 1).toNat + 4) ∧
  (r.state = .terminated → r.cnt.toNat = 0)

/-- R29 (b): the length byte is legal once it is held. -/
abbrev RxSide.LengthOk (c : Config) (r : RxSide) : Prop :=
  r.state = .awaitBody ∨ r.state = .complete → (r.buf.byte 1).toNat ≤ c.maxData

/-- R29 (c): a completed packet verifies. -/
abbrev RxSide.Verified (c : Config) (r : RxSide) : Prop :=
  r.state = .complete → (stripAndVerify c r.held).2 = true

/-- R29 (d): the window's count while it runs. -/
abbrev RxSide.WindowOk (c : Config) (r : RxSide) : Prop :=
  r.state = .awaitLength ∨ r.state = .awaitBody → 1 ≤ r.timer ∧ r.timer ≤ c.timeoutTicks

/-- U11: a raised `drop_valid` has a reason. -/
abbrev RxSide.ReasonOk (r : RxSide) : Prop := r.dropValid = true → r.dropReason ≠ .none

/-- R29 (e): the packet being sent. -/
abbrev TxSide.FrameOk (c : Config) (t : TxSide) : Prop :=
  t.state = .send →
    4 ≤ t.len.toNat ∧ t.len.toNat ≤ 26 ∧
    t.len.toNat = (t.buf.byte 1).toNat + 4 ∧
    t.idx.toNat < t.len.toNat ∧
    t.buf.slice 0 t.len.toNat = appendCrc c (t.buf.slice 0 (t.len.toNat - 2))

/-- R29 (f): nothing is indexed while nothing is sent. -/
abbrev TxSide.IdleOk (t : TxSide) : Prop := t.state = .idle → t.idx.toNat = 0

/-- The receive-side invariants together. -/
abbrev RxSide.Inv (c : Config) (r : RxSide) : Prop :=
  r.CountOk ∧ r.LengthOk c ∧ r.Verified c ∧ r.WindowOk c ∧ r.ReasonOk

/-- The transmit-side invariants together. -/
abbrev TxSide.Inv (c : Config) (t : TxSide) : Prop := t.FrameOk c ∧ t.IdleOk

/-- The invariant: legal parameters (R5) and R29 (a) to (f). -/
abbrev State.Inv (s : State) : Prop := s.cfg.legal = true ∧ s.rx.Inv s.cfg ∧ s.tx.Inv s.cfg

/-! ### Registers that hold no value (R13, R14, R20, R21, R29 (g)) -/

/-- Receive sides that differ at most in bytes at index `rx_cnt` and above and in an `rx_timer` that does not run. -/
abbrev RxSide.Alike (r r' : RxSide) : Prop :=
  r'.state = r.state ∧ r'.cnt = r.cnt ∧ r'.held = r.held ∧ (r.windowRuns = true → r'.timer = r.timer) ∧
  r'.dropValid = r.dropValid ∧ r'.dropReason = r.dropReason ∧ r'.actions = r.actions

/-- Transmit sides that differ at most in bytes at index `tx_len` and above and, in `TX_IDLE`, in `tx_len` and `tx_buf`. -/
abbrev TxSide.Alike (t t' : TxSide) : Prop :=
  t'.state = t.state ∧ t'.idx = t.idx ∧
  (t.state = .send → t'.len = t.len ∧ t'.buf.slice 0 t.len.toNat = t.buf.slice 0 t.len.toNat) ∧
  t'.done = t.done ∧ t'.status = t.status ∧ t'.actions = t.actions

/-- States that differ at most in registers that hold no value. -/
abbrev State.Alike (s s' : State) : Prop :=
  s'.cfg = s.cfg ∧ s'.inputs = s.inputs ∧ s.rx.Alike s'.rx ∧ s.tx.Alike s'.tx

/-! ### Kinds of instructions -/

/-- The events the RX agent performs (R66). -/
def isReceiveEvent : Instr → Bool
  | .tick | .pktAccept | .rxByteType _ | .rxByteLength _ | .rxByteBody _ | .rxClose => true
  | _ => false

/-- The events the TX agent performs (R66). -/
def isTransmitEvent : Instr → Bool
  | .txStart _ _ _ | .txFail | .txByte => true
  | _ => false

/-- The EVENT rows of the opcode table. -/
def isEvent (i : Instr) : Bool := i == .reset || isReceiveEvent i || isTransmitEvent i

/-! ### The transition table (R119) -/

/-- `rx_state`, `rx_cnt` and the output of a receive-side event. -/
def moves (s t : State) (into : RxState) (cnt : Nat) (output : List RxAction) : Prop :=
  t.rx.state = into ∧ t.rx.cnt.toNat = cnt ∧ t.rx.actions = s.rx.actions ++ output

/-- The rows of R119; where no row stands, no transition exists. -/
def transitionTable (s : State) (i : Instr) (t : State) : Prop :=
  match s.rx.state, i with
  | _, .reset => moves s t .awaitType 0 []
  | .awaitType, .rxByteType _ => moves s t .awaitLength 1 [] ∧ t.rx.timer = s.cfg.timeoutTicks
  | .awaitType, .tick => moves s t .awaitType 0 []
  | .awaitType, .rxClose => moves s t .terminated 0 []
  | .awaitLength, .rxByteLength b =>
    if b.toNat ≤ s.cfg.maxData then moves s t .awaitBody 2 [] else moves s t .awaitType 0 [.drop .badLength]
  | .awaitLength, .tick =>
    if 1 < s.rx.timer then moves s t .awaitLength 1 [] ∧ t.rx.timer = s.rx.timer - 1
    else moves s t .awaitType 0 [.drop .timeout]
  | .awaitLength, .rxClose => moves s t .terminated 0 []
  | .awaitBody, .rxByteBody b =>
    if s.rx.cnt.toNat + 1 < (s.rx.buf.byte 1).toNat + 4 then moves s t .awaitBody (s.rx.cnt.toNat + 1) []
    else if (stripAndVerify s.cfg (s.rx.held ++ [b])).2 then moves s t .complete ((s.rx.buf.byte 1).toNat + 4) []
    else moves s t .awaitType 0 [.drop .badCrc]
  | .awaitBody, .tick =>
    if 1 < s.rx.timer then moves s t .awaitBody s.rx.cnt.toNat [] ∧ t.rx.timer = s.rx.timer - 1
    else moves s t .awaitType 0 [.drop .timeout]
  | .awaitBody, .rxClose => moves s t .terminated 0 []
  | .complete, .pktAccept => moves s t .awaitType 0 [.deliver (s.rx.packet s.cfg)]
  | .complete, .tick => moves s t .complete s.rx.cnt.toNat []
  | .terminated, .tick => moves s t .terminated 0 []
  | _, _ => False

/-! ### Quiescence (R244) -/

/-- No packet is partly received, awaiting acceptance or partly sent (R244). -/
def State.quiescent (s : State) : Bool :=
  (s.rx.state == .awaitType || s.rx.state == .terminated) && s.tx.state == .idle

/-! ### Short runs -/

/-- An instruction `n` times. -/
def execTimes (i : Instr) : Nat → State → Result
  | 0, s => .next s
  | n + 1, s => andThen (exec i s) (execTimes i n)

/-- Bytes taken by the framer, each after the given number of TICK events: a packet fed slowly (R121). -/
def feedSlowly : List (Nat × Byte) → State → Result
  | [], s => .next s
  | (n, b) :: rest, s => andThen (execTimes .tick n s) fun s => andThen (onRx (rxByte b) s) (feedSlowly rest)

/-- One bit of a byte sequence inverted: bit `k % 8` of byte `k / 8`. -/
def flipBit (s : List Byte) (k : Nat) : List Byte := s.modify (k / 8) fun b => b ^^^ BitVec.twoPow 8 (k % 8)

end Sys2Proof.Machine
end

