-- ==== Sys2Proof/Certificates/Slice0/Obligations.lean ====
section
/-! DEFINITION. Statements about the block for the provers, in the terms of Sys2Proof/Safety.lean. -/

open Sys2Proof Sys2Proof.Machine

/-! ### Encoding -/

/-- Decoding the words of a well-formed instruction gives it back with whatever follows, for all 29 rows and every operand,
in each `rx_state` in which the words belong to the row (30_encoding.md R61 to R67). The place of an event's operands in
its word is the model's choice (assumption 6). -/
def Obligations.DecodeOfEncode : Prop :=
  ∀ (i : Instr) (st : RxState) (more : List Byte), i.wf = true → i.readIn st = true →
    decode i.format st (encode i ++ more) = .ok (i, more)

/-- Each packet word has one meaning: what the decoder reads from it is well-formed, of the type byte that stands first,
and encodes to the bytes read (R60 to R65, R67). A packet at the request port, type, length and payload with no CRC, two
bytes when the length is above 22, is the model's own form (assumption 5); that 22 bounds both forms is assumption 22. -/
def Obligations.EncodeOfDecodedPacket : Prop :=
  ∀ (f : Format) (st : RxState) (t : Byte) (bytes more : List Byte) (i : Instr), f ≠ .event →
    decode f st (t :: bytes) = .ok (i, more) →
      i.wf = true ∧ i.format = f ∧ i.typeByte = some t ∧ encode i ++ more = t :: bytes

/-- A few words written out from the opcode table. A word alone does not tell a TYPE row from an EVENT row; how the model
tells them apart is assumption 7. -/
def Obligations.TableWordsDecode : Prop :=
  decodeTableWord 8 0x1F = some (.writeReq (.send [])) ∧
  decodeTableWord 8 0x62 = some (.setLedRsp (.receive [] 0)) ∧
  decodeTableWord 8 0x81 = some (.fanSpeedRpt (.receive [] 0)) ∧
  decodeTableWord 8 0xBF = some (.reportOther 0x3F (.receive [] 0)) ∧
  decodeTableWord 8 0xC6 = some (.class11Other 0x06 (.receive [] 0)) ∧
  decodeTableWord 8 0x02 = some .tick ∧
  decodeTableWord 8 0x08 = some (.rxByteType 0) ∧
  decodeTableWord 8 0x20 = some (.txStart 0 0 (List.replicate 22 0))

/-- The events of a vector: RESET alone when its bit is 1; otherwise exactly the events whose bits are 1, in ascending bit
order (R66, R187). -/
def Obligations.VectorEventsAscending : Prop :=
  ∀ v : EventVector,
    (v.ev.getLsbD 0 = true → v.events = [.reset]) ∧
    (v.ev.getLsbD 0 = false →
      (v.events.map Event.bit).Pairwise (· < ·) ∧ ∀ e : Event, e ∈ v.events ↔ v.ev.getLsbD e.bit = true)

/-- Every TYPE word but a class-0b10 one shows as a response, every class-0b10 one as a report: the class tag is read
from bits 7:6 (R140). -/
def Obligations.ReportsAreClassTwo : Prop :=
  ∀ (c : Config) (t : Byte), c.reportClass = 0b10 →
    (isReport c t = true ↔ 0x80 ≤ t.toNat ∧ t.toNat ≤ 0xBF)

/-! ### The step -/

/-- A word that decodes to an instruction makes the step run it, for all three formats, after both pulse registers have
been cleared and with the word removed from the inputs. That a word, too, begins with a rising edge is the model's choice
(assumption 15), as are one input word a step (assumption 3), the places of an event's operands in its word (assumption 6),
and that the bytes after the instruction, `more`, are dropped with the word (assumption 24). -/
def Obligations.StepRunsDecodedWord : Prop :=
  ∀ (s : State) (f : Format) (bytes more : List Byte) (rest : List Input) (i : Instr), s.cfg.legal = true →
    s.inputs = .word f bytes :: rest → decode f s.rx.state bytes = .ok (i, more) →
      step s = exec i { s.beginCycle with inputs := rest }

/-- A clock cycle performs the events its port signals give, one after another in the order of the vector, each on the
state the previous one left, with the operands its ports carry (R181, R187); with no input to come, a cycle whose inputs are
all 0 (assumption 3). A vector given as an event word with its operands (assumption 6) performs those of its events that are
enabled when their turn comes, and stops, by the name of its first event, when it has events and none is enabled
(assumption 8); its step, too, begins with a rising edge (assumption 15), and the bytes after its operands, `more`, are
dropped with the word (assumption 24). -/
def Obligations.CyclePerformsItsEventsInOrder : Prop :=
  (∀ (s : State) (p : PortIn) (rest : List Input), s.cfg.legal = true → s.inputs = .cycle p :: rest →
    step s = (p.vector s).events.foldl (fun o e => andThen o (perform (p.vector s) e))
      (.next { s.beginCycle with inputs := rest })) ∧
  (∀ s : State, s.cfg.legal = true → s.inputs = [] → step s = .next s.beginCycle) ∧
  (∀ (v : EventVector) (s : State),
    perform v .reset s = exec .reset s ∧ perform v .tick s = exec .tick s ∧
    perform v .pktAccept s = exec .pktAccept s ∧ perform v .rxClose s = exec .rxClose s ∧
    perform v .txStart s = exec (.txStart v.code v.plen v.payload) s ∧
    perform v .txFail s = exec .txFail s ∧ perform v .txByte s = exec .txByte s ∧
    (s.rx.state = .awaitType → perform v .rxByte s = exec (.rxByteType v.rxData) s) ∧
    (s.rx.state = .awaitLength → perform v .rxByte s = exec (.rxByteLength v.rxData) s) ∧
    (s.rx.state = .awaitBody → perform v .rxByte s = exec (.rxByteBody v.rxData) s)) ∧
  (∀ (p : PortIn) (s : State),
    (p.vector s).rxData = p.rxData ∧ (p.vector s).code = p.txqCode ∧ (p.vector s).plen = p.txqPlen ∧
    (p.vector s).payload.length = 22 ∧
    ∀ i j : Nat, i < 22 → j < 8 →
      ((p.vector s).payload.getD i 0).getLsbD j = p.txqPayload.getLsbD (8 * i + j)) ∧
  (∀ (s : State) (v : EventVector) (more : List Byte) (rest : List Input), s.cfg.legal = true →
    v.payload.length = 22 →
    s.inputs = .word .event (v.ev :: v.rxData :: v.code :: v.plen :: (v.payload ++ more)) :: rest →
    (v.events = [] → step s = .next { s.beginCycle with inputs := rest }) ∧
    ((∃ e ∈ v.events, eventEnabled s e = true) →
      step s = v.events.foldl
        (fun o e => andThen o fun t => if eventEnabled t e then perform v e t else .next t)
        (.next { s.beginCycle with inputs := rest })) ∧
    ∀ (e : Event) (es : List Event), v.events = e :: es → (∀ x ∈ v.events, eventEnabled s x = false) →
      step s = .fault (notEnabledFault e)) ∧
  (∀ s : State,
    eventEnabled s .reset = true ∧ eventEnabled s .tick = true ∧
    (eventEnabled s .pktAccept = true ↔ s.rx.state = .complete) ∧
    (eventEnabled s .rxByte = true ↔ s.rx.state ≠ .complete ∧ s.rx.state ≠ .terminated) ∧
    (eventEnabled s .rxClose = true ↔ s.rx.state ≠ .complete ∧ s.rx.state ≠ .terminated) ∧
    (eventEnabled s .txStart = true ↔ s.tx.state = .idle) ∧
    (eventEnabled s .txFail = true ↔ s.tx.state = .send) ∧
    (eventEnabled s .txByte = true ↔ s.tx.state = .send)) ∧
  notEnabledFault .pktAccept = .pktAcceptNotEnabled ∧ notEnabledFault .rxByte = .rxByteNotEnabled ∧
  notEnabledFault .rxClose = .rxCloseNotEnabled ∧ notEnabledFault .txStart = .txStartNotEnabled ∧
  notEnabledFault .txFail = .txFailNotEnabled ∧ notEnabledFault .txByte = .txByteNotEnabled

/-- A step is refused as `illegalConfig` exactly when the parameters are not legal. U16 of 93_implementation_defined.md and
R5 give the bounds on `TIMEOUT_TICKS`, and R5 the values of `MIN_FRAME`, `MAX_FRAME` and `CRC_POLY_R`; the bound on
`MAX_DATA`, that on `CRC_REFLECT`, and the refusal itself wherever U16 does not give it are the model's choice
(assumption 13). -/
def Obligations.IllegalConfigurationRefused : Prop :=
  ∀ s : State, step s = .refused .illegalConfig ↔ s.cfg.legal = false

/-- No step changes a parameter of the instance (R26, R58), and a step takes exactly the next input. -/
def Obligations.StepKeepsParameters : Prop :=
  ∀ s t : State, step s = .next t → t.cfg = s.cfg ∧ t.inputs = s.inputs.tail

/-! ### Invariants -/

/-- The reset state meets the invariants of R29. -/
def Obligations.ResetStateMeetsInvariants : Prop := State.reset.Inv

/-- The state right after reset, where R30 gives a value, as the codes R30's table gives, and every output port (R181);
and the codes of the four coded registers (R11, R19, R26, R200), which the ports `drop_reason` and `tx_status` show. The
values R30 leaves unspecified are not stated. A port that holds no value is `none` (assumption 14). -/
def Obligations.ResetStateValues : Prop :=
  (State.reset.rx.state.code = 0 ∧ State.reset.rx.cnt = 0 ∧ State.reset.rx.dropValid = false ∧
    State.reset.rx.dropReason.code = 0 ∧ State.reset.tx.state.code = 0 ∧ State.reset.tx.idx = 0 ∧
    State.reset.tx.done = false ∧ State.reset.tx.status.code = 0) ∧
  State.reset.ports = {
    rxReady := true, txValid := false, txData := none, pktValid := false, pktType := none, pktLen := none,
    pktData := List.replicate 22 none, pktIsReport := none, dropValid := false, dropReason := none,
    rxTerminated := false, txqReady := true, txDone := false, txStatus := none } ∧
  (RxState.awaitType.code = 0 ∧ RxState.awaitLength.code = 1 ∧ RxState.awaitBody.code = 2 ∧
    RxState.complete.code = 3 ∧ RxState.terminated.code = 4) ∧
  (TxState.idle.code = 0 ∧ TxState.send.code = 1) ∧
  (DropReason.none.code = 0 ∧ DropReason.badLength.code = 1 ∧ DropReason.badCrc.code = 2 ∧
    DropReason.timeout.code = 3) ∧
  (TxStatus.ok.code = 0 ∧ TxStatus.payloadTooLarge.code = 1 ∧ TxStatus.ioError.code = 2) ∧
  ∀ s : State,
    (s.rx.dropValid = true → s.ports.dropReason = some s.rx.dropReason.code) ∧
    (s.tx.done = true → s.ports.txStatus = some s.tx.status.code)

/-- Every step keeps the invariants of R29 (a) to (f), from every state that meets them, whatever the inputs. -/
def Obligations.StepKeepsInvariants : Prop :=
  ∀ s t : State, s.Inv → step s = .next t → t.Inv

/-- R29 (g): nothing a step does depends on a byte of `rx_buf` at index `rx_cnt` or above, on a byte of `tx_buf` at index
`tx_len` or above, or on any register that holds no value. Two states that differ only there answer alike and show the
same outputs. -/
def Obligations.RegistersWithoutValueNeverRead : Prop :=
  ∀ s s' : State, s.Inv → s'.Inv → s.Alike s' →
    s'.pktOut = s.pktOut ∧ s'.txData = s.txData ∧
    (∀ t, step s = .next t → ∃ t', step s' = .next t' ∧ t.Alike t') ∧
    (∀ r, step s = .fault r → step s' = .fault r) ∧
    (∀ r, step s = .refused r → step s' = .refused r)

/-- "The block never halts of its own accord" (R244): whatever the port signals of a cycle, a state that meets the
invariants has a next state. -/
def Obligations.PortCycleAlwaysAnswers : Prop :=
  ∀ (s : State) (p : PortIn) (rest : List Input), s.Inv → s.inputs = .cycle p :: rest → ∃ t, step s = .next t

/-- The event vector of a cycle (R187): RESET alone when `rst` is 1; otherwise each event exactly when the port signals and
the state in which the cycle begins say so. At most one of PKT_ACCEPT, RX_BYTE, RX_CLOSE and at most one of TX_START,
TX_FAIL, TX_BYTE is in it, and each event in it is enabled when the cycle begins. -/
def Obligations.PortVectorOneEventEachSide : Prop :=
  ∀ (p : PortIn) (s : State),
    (p.rst = true → (p.vector s).events = [.reset]) ∧
    (p.rst = false →
      Event.reset ∉ (p.vector s).events ∧
      (Event.tick ∈ (p.vector s).events ↔ p.tick = true) ∧
      (Event.pktAccept ∈ (p.vector s).events ↔ s.rx.state = .complete ∧ p.pktReady = true) ∧
      (Event.rxByte ∈ (p.vector s).events ↔
        p.rxValid = true ∧ s.rx.state ≠ .complete ∧ s.rx.state ≠ .terminated) ∧
      (Event.rxClose ∈ (p.vector s).events ↔
        p.rxClosed = true ∧ p.rxValid = false ∧ s.rx.state ≠ .complete ∧ s.rx.state ≠ .terminated) ∧
      (Event.txStart ∈ (p.vector s).events ↔ p.txqValid = true ∧ s.tx.state = .idle) ∧
      (Event.txFail ∈ (p.vector s).events ↔ s.tx.state = .send ∧ p.txFail = true) ∧
      (Event.txByte ∈ (p.vector s).events ↔ s.tx.state = .send ∧ p.txReady = true ∧ p.txFail = false)) ∧
    ((p.vector s).events.filter fun e => e == .pktAccept || e == .rxByte || e == .rxClose).length ≤ 1 ∧
    ((p.vector s).events.filter fun e => e == .txStart || e == .txFail || e == .txByte).length ≤ 1 ∧
    ∀ e ∈ (p.vector s).events, eventEnabled s e = true

/-! ### Enabledness -/

/-- The table of R110: in which `rx_state` each receive-side event has a next state; in the others it has none, and stops
by name. TICK is enabled everywhere and changes nothing where no window runs. -/
def Obligations.ReceiveEventsEnabledByState : Prop :=
  ∀ (s : State) (b : Byte), s.Inv →
    ((∃ t, exec .tick s = .next t) ∧
      (s.rx.state = .awaitType ∨ s.rx.state = .complete ∨ s.rx.state = .terminated → exec .tick s = .next s)) ∧
    ((∃ t, exec .pktAccept s = .next t) ↔ s.rx.state = .complete) ∧
    ((∃ t, exec .rxClose s = .next t) ↔
      s.rx.state = .awaitType ∨ s.rx.state = .awaitLength ∨ s.rx.state = .awaitBody) ∧
    ((∃ t, exec (.rxByteType b) s = .next t) ↔ s.rx.state = .awaitType) ∧
    ((∃ t, exec (.rxByteLength b) s = .next t) ↔ s.rx.state = .awaitLength) ∧
    ((∃ t, exec (.rxByteBody b) s = .next t) ↔ s.rx.state = .awaitBody)

/-- An event that is not enabled cannot occur (R8, U12): the instruction stops, by a name of its own (assumption 8). A TYPE
row stops by the name of the event it begins with (assumption 5): a request in `TX_SEND`, a packet from the device in
`COMPLETE` and `TERMINATED`. -/
def Obligations.DisabledEventsStopByName : Prop :=
  (∀ (s : State) (b code plen : Byte) (payload : List Byte),
    (s.rx.state ≠ .complete → exec .pktAccept s = .fault .pktAcceptNotEnabled) ∧
    (s.rx.state = .complete ∨ s.rx.state = .terminated → exec .rxClose s = .fault .rxCloseNotEnabled) ∧
    (s.rx.state ≠ .awaitType → exec (.rxByteType b) s = .fault .rxByteNotEnabled) ∧
    (s.rx.state ≠ .awaitLength → exec (.rxByteLength b) s = .fault .rxByteNotEnabled) ∧
    (s.rx.state ≠ .awaitBody → exec (.rxByteBody b) s = .fault .rxByteNotEnabled) ∧
    (s.tx.state = .send → exec (.txStart code plen payload) s = .fault .txStartNotEnabled) ∧
    (s.tx.state = .idle → exec .txFail s = .fault .txFailNotEnabled) ∧
    (s.tx.state = .idle → exec .txByte s = .fault .txByteNotEnabled)) ∧
  ∀ (i : Instr) (s : State) (payload data : List Byte) (plen len : Byte) (crc : Half),
    (i.transfer = some (.send payload) ∨ i.transfer = some (.sendOversize plen) → s.tx.state = .send →
      exec i s = .fault .txStartNotEnabled) ∧
    (i.transfer = some (.receive data crc) ∨ i.transfer = some (.receiveOversize len) →
      s.rx.state = .complete ∨ s.rx.state = .terminated → exec i s = .fault .rxByteNotEnabled)

/-- R117: nothing but PKT_ACCEPT and RESET touches the receive side while a packet waits; no byte is taken, TICK has no
effect, and a packet from the device stops. -/
def Obligations.CompleteHoldsThePacket : Prop :=
  ∀ (i : Instr) (s t : State), s.rx.state = .complete → i ≠ .reset → i ≠ .pktAccept → exec i s = .next t →
    (t.rx = s.rx ∧ t.pktOut = s.pktOut) ∧ (isReceiveEvent i = true → i = .tick)

/-- R118: `TERMINATED` is final. TICK is the only receive-side event enabled in it and has no effect; whatever else runs
leaves the receive side as it is, unless it is RESET. -/
def Obligations.TerminatedIsFinal : Prop :=
  ∀ (i : Instr) (s t : State), s.rx.state = .terminated → exec i s = .next t →
    (isReceiveEvent i = true → i = .tick ∧ t = s) ∧ (i = .reset ∨ t.rx = s.rx)

/-- The transition table of R119: what a receive-side event or RESET does to `rx_state`, `rx_cnt` and the outputs; no other
transition exists. -/
def Obligations.ReceiveTransitionTable : Prop :=
  ∀ (i : Instr) (s t : State), s.Inv → i = .reset ∨ isReceiveEvent i = true → exec i s = .next t →
    transitionTable s i t

/-! ### The receive framer -/

/-- RX_BYTE in `AWAIT_TYPE` (R111): any byte is the type byte; the window starts. Everything else stays. -/
def Obligations.TypeByteAccepted : Prop :=
  ∀ (b : Byte) (s : State), s.rx.state = .awaitType →
    ∃ t, exec (.rxByteType b) s = .next t ∧
      t.rx.held = [b] ∧ t.rx.cnt = 1 ∧ t.rx.timer = s.cfg.timeoutTicks ∧ t.rx.state = .awaitLength ∧
      (∀ k, k ≠ 0 → t.rx.buf.byte k = s.rx.buf.byte k) ∧
      t.rx.dropValid = s.rx.dropValid ∧ t.rx.dropReason = s.rx.dropReason ∧ t.rx.actions = s.rx.actions ∧
      t.tx = s.tx ∧ t.cfg = s.cfg ∧ t.inputs = s.inputs

/-- RX_BYTE in `AWAIT_LENGTH` (R112): a length above `MAX_DATA` is rejected at once, any other is stored. The window that
began with the type byte continues. Everything else stays. -/
def Obligations.LengthByteAcceptedOrRejected : Prop :=
  ∀ (b : Byte) (s : State), s.rx.state = .awaitLength →
    ∃ t, exec (.rxByteLength b) s = .next t ∧
      (b.toNat ≤ s.cfg.maxData →
        t.rx.buf.byte 1 = b ∧ t.rx.cnt = 2 ∧ t.rx.state = .awaitBody ∧
        (∀ k, k ≠ 1 → t.rx.buf.byte k = s.rx.buf.byte k) ∧
        t.rx.dropValid = s.rx.dropValid ∧ t.rx.dropReason = s.rx.dropReason ∧ t.rx.actions = s.rx.actions) ∧
      (s.cfg.maxData < b.toNat →
        t.rx.cnt = 0 ∧ t.rx.state = .awaitType ∧ t.rx.buf = s.rx.buf ∧
        t.rx.dropValid = true ∧ t.rx.dropReason = .badLength ∧
        t.rx.actions = s.rx.actions ++ [.drop .badLength]) ∧
      t.rx.timer = s.rx.timer ∧ t.tx = s.tx ∧ t.cfg = s.cfg ∧ t.inputs = s.inputs

/-- RX_BYTE in `AWAIT_BODY` (R113): the byte is stored after the held ones; if it was `crc_hi` the packet is complete when
the buffer verifies and dropped as `BadCrc` when not; otherwise more bytes are awaited. Everything else stays. -/
def Obligations.BodyByteStoredAndJudged : Prop :=
  ∀ (b : Byte) (s : State), s.Inv → s.rx.state = .awaitBody →
    ∃ t, exec (.rxByteBody b) s = .next t ∧
      t.rx.buf.byte s.rx.cnt.toNat = b ∧ (∀ k, k ≠ s.rx.cnt.toNat → t.rx.buf.byte k = s.rx.buf.byte k) ∧
      (s.rx.cnt.toNat + 1 < (s.rx.buf.byte 1).toNat + 4 →
        t.rx.state = .awaitBody ∧ t.rx.held = s.rx.held ++ [b] ∧ t.rx.cnt.toNat = s.rx.cnt.toNat + 1 ∧
        t.rx.dropValid = s.rx.dropValid ∧ t.rx.dropReason = s.rx.dropReason ∧ t.rx.actions = s.rx.actions) ∧
      (s.rx.cnt.toNat + 1 = (s.rx.buf.byte 1).toNat + 4 →
        ((stripAndVerify s.cfg (s.rx.held ++ [b])).2 = true →
          t.rx.state = .complete ∧ t.rx.held = s.rx.held ++ [b] ∧ t.rx.cnt.toNat = s.rx.cnt.toNat + 1 ∧
          t.rx.dropValid = s.rx.dropValid ∧ t.rx.dropReason = s.rx.dropReason ∧ t.rx.actions = s.rx.actions) ∧
        ((stripAndVerify s.cfg (s.rx.held ++ [b])).2 = false →
          t.rx.state = .awaitType ∧ t.rx.cnt = 0 ∧ t.rx.dropValid = true ∧ t.rx.dropReason = .badCrc ∧
          t.rx.actions = s.rx.actions ++ [.drop .badCrc])) ∧
      t.rx.timer = s.rx.timer ∧ t.tx = s.tx ∧ t.cfg = s.cfg ∧ t.inputs = s.inputs

/-- TICK (R114): a running window loses a tick, or at its last tick the partial packet is dropped as `Timeout`; elsewhere
nothing changes. No byte is consumed or written. -/
def Obligations.TickCountsOrExpires : Prop :=
  ∀ s : State, ∃ t, exec .tick s = .next t ∧
    (s.rx.state = .awaitLength ∨ s.rx.state = .awaitBody →
      (1 < s.rx.timer →
        t.rx.timer = s.rx.timer - 1 ∧ t.rx.state = s.rx.state ∧ t.rx.cnt = s.rx.cnt ∧
        t.rx.dropValid = s.rx.dropValid ∧ t.rx.dropReason = s.rx.dropReason ∧ t.rx.actions = s.rx.actions) ∧
      (s.rx.timer ≤ 1 →
        t.rx.timer = s.rx.timer ∧ t.rx.state = .awaitType ∧ t.rx.cnt = 0 ∧
        t.rx.dropValid = true ∧ t.rx.dropReason = .timeout ∧
        t.rx.actions = s.rx.actions ++ [.drop .timeout])) ∧
    (s.rx.state = .awaitType ∨ s.rx.state = .complete ∨ s.rx.state = .terminated → t = s) ∧
    t.rx.buf = s.rx.buf ∧ t.tx = s.tx ∧ t.cfg = s.cfg ∧ t.inputs = s.inputs

/-- PKT_ACCEPT (R115): exactly the type byte, the length, the `len` data bytes and the class tag are delivered, not the CRC
bytes; the framer awaits a type byte. Everything else stays. -/
def Obligations.AcceptDeliversThePacket : Prop :=
  ∀ s : State, s.Inv → s.rx.state = .complete →
    ∃ t p, exec .pktAccept s = .next t ∧ t.rx.actions = s.rx.actions ++ [.deliver p] ∧
      [p.type, s.rx.buf.byte 1] ++ p.data = s.rx.held.take (s.rx.cnt.toNat - 2) ∧
      p.len.toNat = (s.rx.buf.byte 1).toNat ∧ p.data.length = p.len.toNat ∧
      (p.isReport = true ↔ typeClass p.type = s.cfg.reportClass) ∧
      t.rx.state = .awaitType ∧ t.rx.cnt = 0 ∧ t.rx.buf = s.rx.buf ∧ t.rx.timer = s.rx.timer ∧
      t.rx.dropValid = s.rx.dropValid ∧ t.rx.dropReason = s.rx.dropReason ∧
      t.tx = s.tx ∧ t.cfg = s.cfg ∧ t.inputs = s.inputs

/-- RX_CLOSE (R116): the framer terminates; a partial packet is discarded with no `Drop` and no `Deliver`; the transmit
side is not affected. Everything else stays. -/
def Obligations.CloseTerminatesSilently : Prop :=
  ∀ s : State, s.rx.state = .awaitType ∨ s.rx.state = .awaitLength ∨ s.rx.state = .awaitBody →
    ∃ t, exec .rxClose s = .next t ∧ t.rx.state = .terminated ∧ t.rxTerminated = true ∧ t.rx.cnt = 0 ∧
      t.rx.buf = s.rx.buf ∧ t.rx.timer = s.rx.timer ∧ t.rx.dropValid = s.rx.dropValid ∧
      t.rx.dropReason = s.rx.dropReason ∧ t.rx.actions = s.rx.actions ∧
      t.tx = s.tx ∧ t.cfg = s.cfg ∧ t.inputs = s.inputs

/-! ### Errors -/

/-- R201: `BadLength` is raised when and only when the byte taken in `AWAIT_LENGTH` exceeds `MAX_DATA`; its effect. No later
byte is consumed: the inputs still to come stay. -/
def Obligations.BadLengthExactlyWhen : Prop :=
  ∀ (i : Instr) (s t : State), isEvent i = true → exec i s = .next t →
    (t.rx.actions = s.rx.actions ++ [.drop .badLength] ↔
      ∃ b, i = .rxByteLength b ∧ s.rx.state = .awaitLength ∧ s.cfg.maxData < b.toNat) ∧
    (t.rx.actions = s.rx.actions ++ [.drop .badLength] →
      t.rx.cnt = 0 ∧ t.rx.state = .awaitType ∧ t.rx.dropValid = true ∧ t.rx.dropReason = .badLength ∧
      t.inputs = s.inputs)

/-- R202: `BadCrc` is raised when and only when the byte that brings `rx_cnt` to `rx_buf[1] + 4` has been stored and the
buffer does not verify; its effect. -/
def Obligations.BadCrcExactlyWhen : Prop :=
  ∀ (i : Instr) (s t : State), s.Inv → isEvent i = true → exec i s = .next t →
    (t.rx.actions = s.rx.actions ++ [.drop .badCrc] ↔
      ∃ b, i = .rxByteBody b ∧ s.rx.state = .awaitBody ∧ s.rx.cnt.toNat + 1 = (s.rx.buf.byte 1).toNat + 4 ∧
        (stripAndVerify s.cfg (s.rx.held ++ [b])).2 = false) ∧
    (t.rx.actions = s.rx.actions ++ [.drop .badCrc] →
      t.rx.cnt = 0 ∧ t.rx.state = .awaitType ∧ t.rx.dropValid = true ∧ t.rx.dropReason = .badCrc ∧
      t.pktOut = none ∧ t.rx.delivered = s.rx.delivered)

/-- R203: `Timeout` is raised when and only when a TICK finds a running window with `rx_timer <= 1`; its effect. The TICK
consumes no byte. -/
def Obligations.TimeoutExactlyWhen : Prop :=
  ∀ (i : Instr) (s t : State), isEvent i = true → exec i s = .next t →
    (t.rx.actions = s.rx.actions ++ [.drop .timeout] ↔
      i = .tick ∧ (s.rx.state = .awaitLength ∨ s.rx.state = .awaitBody) ∧ s.rx.timer ≤ 1) ∧
    (t.rx.actions = s.rx.actions ++ [.drop .timeout] →
      t.rx.cnt = 0 ∧ t.rx.state = .awaitType ∧ t.rx.dropValid = true ∧ t.rx.dropReason = .timeout ∧
      t.rx.buf = s.rx.buf ∧ t.inputs = s.inputs)

/-- R204: `PayloadTooLarge` is raised when and only when TX_START has `plen > MAX_DATA`; nothing changes but the status
report, and no byte is written to the transport. -/
def Obligations.PayloadTooLargeExactlyWhen : Prop :=
  ∀ (i : Instr) (s t : State), isEvent i = true → exec i s = .next t →
    (t.tx.actions = s.tx.actions ++ [.txDone .payloadTooLarge] ↔
      ∃ code plen payload, i = .txStart code plen payload ∧ s.cfg.maxData < plen.toNat) ∧
    (t.tx.actions = s.tx.actions ++ [.txDone .payloadTooLarge] →
      t.tx.done = true ∧ t.tx.status = .payloadTooLarge ∧ t.tx.stream = s.tx.stream ∧
      t.tx.state = s.tx.state ∧ t.tx.buf = s.tx.buf ∧ t.tx.len = s.tx.len ∧ t.tx.idx = s.tx.idx ∧ t.rx = s.rx)

/-- R205: `IoError` is raised when and only when TX_FAIL occurs; its effect. What has been written stays written and no
further byte is; the buffer is not touched. -/
def Obligations.IoErrorExactlyWhen : Prop :=
  ∀ (i : Instr) (s t : State), isEvent i = true → exec i s = .next t →
    (t.tx.actions = s.tx.actions ++ [.txDone .ioError] ↔ i = .txFail) ∧
    (t.tx.actions = s.tx.actions ++ [.txDone .ioError] →
      t.tx.done = true ∧ t.tx.status = .ioError ∧ t.tx.state = .idle ∧ t.tx.idx = 0 ∧
      t.tx.stream = s.tx.stream ∧ t.tx.buf = s.tx.buf ∧ t.tx.len = s.tx.len ∧ t.rx = s.rx)

/-- R122: one receive-side event emits at most one output; never a `Drop` with a rise of `pkt_valid`; a `Deliver` only of a
packet that was already offered. -/
def Obligations.OneOutputPerReceiveEvent : Prop :=
  ∀ (i : Instr) (s t : State), isReceiveEvent i = true → exec i s = .next t →
    ∃ out, t.rx.actions = s.rx.actions ++ out ∧ out.length ≤ 1 ∧
      (s.pktValid = false → t.pktValid = true → out = []) ∧
      (∀ p, RxAction.deliver p ∈ out → s.pktOut = some p)

/-! ### The transmit framer -/

/-- TX_START (R160): a payload within `MAX_DATA` becomes the packet `[code, plen] ++ payload[0 .. plen)` with its CRC, and
sending begins; a larger one is refused with no other change. Payload bytes at `plen` and above are ignored. That buffer
bytes above the packet are not written is the model's reading (assumption 21). Everything else stays. -/
def Obligations.StartBuildsThePacket : Prop :=
  ∀ (code plen : Byte) (payload : List Byte) (s : State), s.cfg.legal = true → payload.length = 22 →
    s.tx.state = .idle →
    ∃ t, exec (.txStart code plen payload) s = .next t ∧
      (plen.toNat ≤ s.cfg.maxData →
        t.tx.state = .send ∧ t.tx.idx = 0 ∧ t.tx.len.toNat = plen.toNat + 4 ∧
        t.tx.buf.slice 0 (plen.toNat + 4) = appendCrc s.cfg (code :: plen :: payload.take plen.toNat) ∧
        (∀ k, plen.toNat + 4 ≤ k → t.tx.buf.byte k = s.tx.buf.byte k) ∧
        t.tx.done = s.tx.done ∧ t.tx.status = s.tx.status ∧ t.tx.actions = s.tx.actions) ∧
      (s.cfg.maxData < plen.toNat →
        t.tx = { s.tx with done := true, status := .payloadTooLarge,
                           actions := s.tx.actions ++ [.txDone .payloadTooLarge] }) ∧
      t.rx = s.rx ∧ t.cfg = s.cfg ∧ t.inputs = s.inputs

/-- TX_BYTE (R161): the byte at `tx_idx` leaves; with the last one the operation ends with `Ok`. Everything else stays. -/
def Obligations.ByteLeavesInIndexOrder : Prop :=
  ∀ s : State, s.Inv → s.tx.state = .send →
    ∃ t, exec .txByte s = .next t ∧
      t.tx.stream = s.tx.stream ++ [s.tx.buf.byte s.tx.idx.toNat] ∧
      (s.tx.idx.toNat + 1 < s.tx.len.toNat →
        t.tx.state = .send ∧ t.tx.idx.toNat = s.tx.idx.toNat + 1 ∧ t.tx.done = s.tx.done ∧
        t.tx.status = s.tx.status ∧
        t.tx.actions = s.tx.actions ++ [.txOut (s.tx.buf.byte s.tx.idx.toNat)]) ∧
      (s.tx.idx.toNat + 1 = s.tx.len.toNat →
        t.tx.state = .idle ∧ t.tx.idx = 0 ∧ t.tx.done = true ∧ t.tx.status = .ok ∧
        t.tx.actions = s.tx.actions ++ [.txOut (s.tx.buf.byte s.tx.idx.toNat), .txDone .ok]) ∧
      t.tx.buf = s.tx.buf ∧ t.tx.len = s.tx.len ∧ t.rx = s.rx ∧ t.cfg = s.cfg ∧ t.inputs = s.inputs

/-- TX_FAIL (R162): the operation ends with `IoError` and the side is idle again. Everything else stays. -/
def Obligations.FailureEndsTheOperation : Prop :=
  ∀ s : State, s.tx.state = .send →
    ∃ t, exec .txFail s = .next t ∧ t.tx.state = .idle ∧ t.tx.idx = 0 ∧ t.tx.done = true ∧
      t.tx.status = .ioError ∧ t.tx.actions = s.tx.actions ++ [.txDone .ioError] ∧
      t.tx.buf = s.tx.buf ∧ t.tx.len = s.tx.len ∧ t.rx = s.rx ∧ t.cfg = s.cfg ∧ t.inputs = s.inputs

/-- TX_START and then one TX_BYTE per byte put exactly the packet and its CRC on the transmit stream, in index order, then
report `Ok` and leave the side idle (R42, R160, R161). -/
def Obligations.RequestBytesReachTheStream : Prop :=
  ∀ (code plen : Byte) (payload : List Byte) (s : State), s.cfg.legal = true → payload.length = 22 →
    s.tx.state = .idle → plen.toNat ≤ s.cfg.maxData →
    ∃ t, andThen (exec (.txStart code plen payload) s) (execTimes .txByte (plen.toNat + 4)) = .next t ∧
      t.tx.actions = s.tx.actions ++
        (appendCrc s.cfg (code :: plen :: payload.take plen.toNat)).map TxAction.txOut ++ [.txDone .ok] ∧
      t.tx.state = .idle ∧ t.tx.idx = 0 ∧ t.tx.done = true ∧ t.tx.status = .ok ∧ t.rx = s.rx

/-! ### RESET -/

/-- RESET (R230), in every state: each register R30 gives a value has it; the buffers, `rx_timer` and `tx_len` are not
written; nothing is emitted, and what has been delivered and sent stays (R56). -/
def Obligations.ResetRestoresControlState : Prop :=
  ∀ s : State, ∃ t, exec .reset s = .next t ∧
    t.rx.state = .awaitType ∧ t.rx.cnt = 0 ∧ t.rx.dropValid = false ∧ t.rx.dropReason = .none ∧
    t.tx.state = .idle ∧ t.tx.idx = 0 ∧ t.tx.done = false ∧ t.tx.status = .ok ∧
    t.rx.buf = s.rx.buf ∧ t.rx.timer = s.rx.timer ∧ t.tx.buf = s.tx.buf ∧ t.tx.len = s.tx.len ∧
    t.rx.actions = s.rx.actions ∧ t.tx.actions = s.tx.actions ∧ t.cfg = s.cfg ∧ t.inputs = s.inputs

/-! ### Packets of every type -/

/-- A request of any of the 19 TYPE rows with at most `MAX_DATA` payload bytes is built with its CRC, its type byte sent as
given (R142, R160, R164). That the row as a request is one TX_START is assumption 5; that buffer bytes above the packet stay
is assumption 21. Everything else stays. A longer payload is OversizeRequestOfAnyTypeRefused. -/
def Obligations.RequestOfAnyTypeIsSent : Prop :=
  ∀ (i : Instr) (ty : Byte) (payload : List Byte) (s : State),
    i.typeByte = some ty → i.transfer = some (.send payload) → s.cfg.legal = true → s.tx.state = .idle →
    payload.length ≤ s.cfg.maxData →
    ∃ t, exec i s = .next t ∧ t.tx.state = .send ∧ t.tx.idx = 0 ∧ t.tx.len.toNat = payload.length + 4 ∧
      t.tx.buf.slice 0 (payload.length + 4) =
        appendCrc s.cfg (ty :: BitVec.ofNat 8 payload.length :: payload) ∧
      (∀ k, payload.length + 4 ≤ k → t.tx.buf.byte k = s.tx.buf.byte k) ∧
      t.tx.done = s.tx.done ∧ t.tx.status = s.tx.status ∧ t.tx.actions = s.tx.actions ∧
      t.rx = s.rx ∧ t.cfg = s.cfg ∧ t.inputs = s.inputs

/-- A request of any type whose payload is too long is refused with no other change (R160, R204): one that gives only its
length, and one that gives a payload above a `MAX_DATA` smaller than 22. That the row as a request is one TX_START is
assumption 5. -/
def Obligations.OversizeRequestOfAnyTypeRefused : Prop :=
  ∀ (i : Instr) (ty plen : Byte) (payload : List Byte) (s : State),
    i.typeByte = some ty →
    i.transfer = some (.sendOversize plen) ∨ i.transfer = some (.send payload) ∧ payload.length = plen.toNat →
    s.cfg.maxData < plen.toNat → s.tx.state = .idle →
    exec i s = .next { s with tx := { s.tx with
      done := true, status := .payloadTooLarge, actions := s.tx.actions ++ [.txDone .payloadTooLarge] } }

/-- A packet from the device, of any of the 19 TYPE rows, whose CRC is right is framed, verified and offered exactly like
any other, with `pkt_is_report` by its class tag (R111 to R113, R140, R143, R144, R147). That the row is its bytes back to
back is assumption 5; that the cycles of those bytes clear the pulses of both sides is assumption 15, and that `drop_reason`
and `tx_status` are kept is assumption 18. Everything else stays. -/
def Obligations.PacketOfAnyTypeIsOffered : Prop :=
  ∀ (i : Instr) (ty : Byte) (data : List Byte) (crc : Half) (s : State),
    i.typeByte = some ty → i.transfer = some (.receive data crc) → s.cfg.legal = true →
    s.rx.state = .awaitType → data.length ≤ s.cfg.maxData →
    crc = crc16 s.cfg (ty :: BitVec.ofNat 8 data.length :: data) →
    ∃ t, exec i s = .next t ∧ t.rx.state = .complete ∧
      t.pktType = some ty ∧ t.pktLen = some (BitVec.ofNat 5 data.length) ∧
      (∀ k, t.pktData k = data[k]?) ∧ t.pktIsReport = some (typeClass ty == s.cfg.reportClass) ∧
      t.rx.held = ty :: BitVec.ofNat 8 data.length :: (data ++ [crcLo crc, crcHi crc]) ∧
      (∀ k, data.length + 4 ≤ k → t.rx.buf.byte k = s.rx.buf.byte k) ∧
      t.rx.timer = s.cfg.timeoutTicks ∧ t.rx.dropValid = false ∧ t.rx.dropReason = s.rx.dropReason ∧
      t.rx.actions = s.rx.actions ∧ t.tx = s.tx.clearPulse ∧ t.cfg = s.cfg ∧ t.inputs = s.inputs

/-- A packet from the device, of any type, whose CRC is wrong is consumed whole and dropped as `BadCrc`, never offered
(R113, R202, R209). That the row is its bytes back to back is assumption 5; that the cycles of those bytes clear the pulses
of the transmit side is assumption 15, and that `tx_status` is kept is assumption 18. -/
def Obligations.PacketWithWrongCrcDropped : Prop :=
  ∀ (i : Instr) (ty : Byte) (data : List Byte) (crc : Half) (s : State),
    i.typeByte = some ty → i.transfer = some (.receive data crc) → s.cfg.legal = true →
    s.rx.state = .awaitType → data.length ≤ s.cfg.maxData →
    crc ≠ crc16 s.cfg (ty :: BitVec.ofNat 8 data.length :: data) →
    ∃ t, exec i s = .next t ∧ t.rx.state = .awaitType ∧ t.rx.cnt = 0 ∧ t.pktOut = none ∧
      t.rx.timer = s.cfg.timeoutTicks ∧ t.rx.dropValid = true ∧ t.rx.dropReason = .badCrc ∧
      t.rx.actions = s.rx.actions ++ [.drop .badCrc] ∧
      t.tx = s.tx.clearPulse ∧ t.cfg = s.cfg ∧ t.inputs = s.inputs

/-- A packet from the device, of any type, whose length byte is above `MAX_DATA` is dropped as `BadLength` at that byte
(R63, R112, R201): one that ends there, and one of at most 22 data bytes where `MAX_DATA` is smaller, whose bytes after the
length byte are then taken as the next bytes of the stream. That the row is its bytes back to back is assumption 5; that the
cycles of those bytes clear the pulses of the transmit side is assumption 15, and that `tx_status` is kept is
assumption 18. -/
def Obligations.PacketWithIllegalLengthDropped : Prop :=
  ∀ (i : Instr) (ty len : Byte) (data tail : List Byte) (crc : Half) (s : State),
    i.typeByte = some ty →
    (i.transfer = some (.receiveOversize len) ∧ tail = [] ∨
      i.transfer = some (.receive data crc) ∧ data.length = len.toNat ∧ tail = data ++ [crcLo crc, crcHi crc]) →
    s.cfg.maxData < len.toNat → s.rx.state = .awaitType →
    ∃ t, exec i s = receiveBytes tail t ∧ (tail = [] → exec i s = .next t) ∧
      t.rx.state = .awaitType ∧ t.rx.cnt = 0 ∧
      t.rx.timer = s.cfg.timeoutTicks ∧ t.rx.dropValid = true ∧ t.rx.dropReason = .badLength ∧
      t.rx.actions = s.rx.actions ++ [.drop .badLength] ∧
      t.tx = s.tx.clearPulse ∧ t.cfg = s.cfg ∧ t.inputs = s.inputs

/-- A packet from the device, of any type, with any CRC, right or wrong, and any length byte, legal or not, does what its
bytes do as RX_BYTE words, one a step: the same next state, or the same stop. For a right CRC these are the words of `RXPKT`
(R70). That the row is its bytes back to back is assumption 5, that each byte has a rising edge of its own assumption 15,
one word a step assumption 3. -/
def Obligations.PacketWordIsItsByteWords : Prop :=
  ∀ (i : Instr) (s : State) (rest : List Input), i.format = .packet → s.cfg.legal = true →
    (∀ t, exec i s = .next t →
      core.run (encode i).length { s with inputs := (Directive.rx (encode i)).inputs s.cfg ++ rest } =
        .next { t with inputs := rest }) ∧
    (∀ r, exec i s = .fault r →
      core.run (encode i).length { s with inputs := (Directive.rx (encode i)).inputs s.cfg ++ rest } = .fault r) ∧
    ∀ (ty : Byte) (data : List Byte), i.wf = true → i.typeByte = some ty →
      i.transfer = some (.receive data (crc16 s.cfg (ty :: BitVec.ofNat 8 data.length :: data))) →
      (Directive.rxpkt ty data).inputs s.cfg = (Directive.rx (encode i)).inputs s.cfg

/-! ### The checksum unit -/

/-- R95: for every byte sequence, `strip_and_verify(append(s)) = (s, true)`. -/
def Obligations.ChecksumRoundTrip : Prop :=
  ∀ (c : Config) (s : List Byte), stripAndVerify c (appendCrc c s) = (s, true)

/-- R93: fewer than two bytes fail closed; otherwise the data is the input without its last two bytes whether or not the
check passes. -/
def Obligations.VerifyFailsClosed : Prop :=
  ∀ (c : Config) (s : List Byte),
    (s.length < 2 → stripAndVerify c s = ([], false)) ∧
    (∀ lo hi, stripAndVerify c (s ++ [lo, hi]) =
      (s, decide (lo = (crc16 c s).extractLsb' 0 8 ∧ hi = (crc16 c s).extractLsb' 8 8)))

/-- R96: for every byte sequence and every single bit of `append(s)`, inverting that bit makes the check fail, with the
polynomial of R5. -/
def Obligations.SingleBitErrorsDetected : Prop :=
  ∀ (c : Config) (s : List Byte) (k : Nat), c.crcPolyR = 0x8408 → k < 8 * (appendCrc c s).length →
    (stripAndVerify c (flipBit (appendCrc c s) k)).2 = false

/-- R97: the residue of every sequence with its CRC, and that on two bytes or more the residue test and the comparison of
the CRC bytes agree, with the polynomial and final XOR of R5. -/
def Obligations.ResidueIsConstant : Prop :=
  ∀ (c : Config) (s : List Byte), c.crcPolyR = 0x8408 → c.crcXorOut = 0xFFFF →
    crcRaw c (appendCrc c s) = 0xF0B8 ∧ crc16 c (appendCrc c s) = 0x0F47 ∧
    (2 ≤ s.length → ((stripAndVerify c s).2 = true ↔ crcRaw c s = 0xF0B8))

/-- R94: `crc_step` is linear, and for a fixed byte a bijection on the accumulators, with the polynomial of R5. -/
def Obligations.CrcStepLinearAndBijective : Prop :=
  ∀ c : Config, c.crcPolyR = 0x8408 →
    (∀ (k₁ k₂ : Half) (b₁ b₂ : Byte),
      crcStep c (k₁ ^^^ k₂) (b₁ ^^^ b₂) = crcStep c k₁ b₁ ^^^ crcStep c k₂ b₂) ∧
    ∀ b : Byte, Function.Bijective fun k => crcStep c k b

/-- R98, R28: a running accumulator, begun at `CRC_INIT` and stepped by each byte, is the value computed over the whole
sequence; so the check at the end of a packet may compare it. -/
def Obligations.RunningChecksumAgrees : Prop :=
  ∀ c : Config, crcRaw c [] = c.crcInit ∧
    (∀ (s : List Byte) (b : Byte), crcRaw c (s ++ [b]) = crcStep c (crcRaw c s) b) ∧
    ∀ (s : List Byte) (lo hi : Byte),
      (stripAndVerify c (s ++ [lo, hi])).2 = true ↔ halfOf hi lo = crcRaw c s ^^^ c.crcXorOut

/-! ### The whole block -/

/-- R54: the two sides share nothing. A receive-side event and a transmit-side event give the same result in either order;
neither enables, disables or changes the other. -/
def Obligations.SidesDoNotInteract : Prop :=
  ∀ (i j : Instr) (s : State), isReceiveEvent i = true → isTransmitEvent j = true →
    (∀ a, exec i s = .next a → a.tx = s.tx ∧
      (∀ b, exec j s = .next b → b.rx = s.rx ∧ ∃ t, exec j a = .next t ∧ exec i b = .next t) ∧
      (∀ r, exec j s = .fault r → exec j a = .fault r)) ∧
    (∀ b r, exec j s = .next b → exec i s = .fault r → exec i b = .fault r)

/-- R120: with a consumer that is always ready, no expired window and no close, the framer is the function `parse` of the
bytes received, which meets the recursion R120 gives; the framer then holds the bytes not consumed. -/
def Obligations.FramerIsParse : Prop :=
  (∀ (s : State) (bytes : List Byte), s.cfg.legal = true → s.rx.state = .awaitType →
    ∃ t, feed bytes s = .next t ∧ t.rx.delivered = s.rx.delivered ++ parse s.cfg bytes ∧ t.tx = s.tx ∧
      (leftover s.cfg bytes = [] → t.rx.state = .awaitType) ∧
      (leftover s.cfg bytes ≠ [] →
        (t.rx.state = .awaitLength ∨ t.rx.state = .awaitBody) ∧ t.rx.held = leftover s.cfg bytes)) ∧
  ∀ (c : Config),
    (∀ bytes : List Byte, bytes.length < 2 → parse c bytes = []) ∧
    ∀ (t n : Byte) (rest : List Byte),
      (c.maxData < n.toNat → parse c (t :: n :: rest) = parse c rest) ∧
      (n.toNat ≤ c.maxData → rest.length < n.toNat + 2 → parse c (t :: n :: rest) = []) ∧
      (n.toNat ≤ c.maxData → n.toNat + 2 ≤ rest.length →
        parse c (t :: n :: rest) =
          (if (stripAndVerify c (t :: n :: rest.take (n.toNat + 2))).2 then
            [{ type := t, len := n.setWidth 5, data := rest.take n.toNat, isReport := isReport c t }]
          else []) ++ parse c (rest.drop (n.toNat + 2)))

/-- R121 (a): the bytes of a well-formed packet, with fewer than `TIMEOUT_TICKS` ticks between its first and last byte in
any distribution, yield exactly one delivered packet and no drop. -/
def Obligations.SlowPacketIsDelivered : Prop :=
  ∀ (s : State) (ty : Byte) (data : List Byte) (timed : List (Nat × Byte)), s.cfg.legal = true →
    s.rx.state = .awaitType → data.length ≤ s.cfg.maxData →
    timed.map Prod.snd = appendCrc s.cfg (ty :: BitVec.ofNat 8 data.length :: data) →
    (timed.tail.map Prod.fst).sum < s.cfg.timeoutTicks →
    ∃ t p, andThen (feedSlowly timed s) (exec .pktAccept) = .next t ∧
      t.rx.actions = s.rx.actions ++ [.deliver p] ∧ t.rx.state = .awaitType ∧
      p.type = ty ∧ p.len.toNat = data.length ∧ p.data = data ∧
      p.isReport = (typeClass ty == s.cfg.reportClass) ∧ t.tx = s.tx

/-- One window per packet (R114, C1 of 90_conflicts.md): the bytes of a packet that is not complete do not restart it; if
`rx_timer` ticks come first, the packet is lost. -/
def Obligations.WindowNotRestartedByBytes : Prop :=
  ∀ (s : State) (n : Nat), s.Inv → s.rx.state = .awaitLength ∨ s.rx.state = .awaitBody →
    (n < s.rx.timer → ∃ t, execTimes .tick n s = .next t ∧ t.rx.timer = s.rx.timer - n ∧
      t.rx.state = s.rx.state ∧ t.rx.cnt = s.rx.cnt ∧ t.rx.actions = s.rx.actions) ∧
    (s.rx.timer ≤ n → ∃ t, execTimes .tick n s = .next t ∧ t.rx.state = .awaitType ∧ t.rx.cnt = 0 ∧
      t.rx.actions = s.rx.actions ++ [.drop .timeout]) ∧
    ∀ (b : Byte) (t : State), (exec (.rxByteLength b) s = .next t ∨ exec (.rxByteBody b) s = .next t) →
      t.rx.timer = s.rx.timer

/-- R121 (b): the same bytes with one bit of the type, data or CRC bytes inverted yield no delivered packet, exactly one
`BadCrc`, and leave the framer aligned on the next frame. -/
def Obligations.FlippedBitIsDropped : Prop :=
  ∀ (s : State) (ty : Byte) (data : List Byte) (k : Nat), s.cfg.legal = true → s.cfg.crcPolyR = 0x8408 →
    s.rx.state = .awaitType → data.length ≤ s.cfg.maxData → k < 8 * (data.length + 4) → k / 8 ≠ 1 →
    ∃ t, feed (flipBit (appendCrc s.cfg (ty :: BitVec.ofNat 8 data.length :: data)) k) s = .next t ∧
      t.rx.actions = s.rx.actions ++ [.drop .badCrc] ∧ t.rx.state = .awaitType ∧ t.rx.cnt = 0 ∧ t.tx = s.tx

/-- R123: a model without `rx_timer`, in which EXPIRE may occur at any time while a window runs, has every run of the
block. What TICK does is, up to the timer, nothing at all or EXPIRE, whatever value the timer has there; and every other
instruction does the same whatever the timer's value, up to the timer. -/
def Obligations.TickIsNothingOrExpire : Prop :=
  (∀ (s t : State) (n : Nat), exec .tick s = .next t →
    ({ t.rx with timer := n } = { s.rx with timer := n } ∨
      rxExpire { s.rx with timer := n } = some { t.rx with timer := n }) ∧
    t.tx = s.tx ∧ t.cfg = s.cfg ∧ t.inputs = s.inputs) ∧
  ∀ (i : Instr) (s : State) (n : Nat), i ≠ .tick →
    (∀ t, exec i s = .next t →
      ∃ m, exec i { s with rx := { s.rx with timer := n } } = .next { t with rx := { t.rx with timer := m } }) ∧
    ∀ r, exec i s = .fault r → exec i { s with rx := { s.rx with timer := n } } = .fault r

/-- R189: `drop_valid` and `tx_done` are 1 after a cycle exactly when an event of the cycle emitted `Drop` or `TxDone`, with
that emission's code; a cycle emits at most one of each; RESET clears both. -/
def Obligations.PulsesLastOneCycle : Prop :=
  ∀ (s t : State) (p : PortIn) (rest : List Input), s.Inv → s.inputs = .cycle p :: rest → step s = .next t →
    (t.rx.dropped = s.rx.dropped ∧ t.dropValid = false ∨
      ∃ r, t.rx.dropped = s.rx.dropped ++ [r] ∧ t.dropValid = true ∧ t.rx.dropReason = r) ∧
    (t.tx.reported = s.tx.reported ∧ t.txDone = false ∨
      ∃ x, t.tx.reported = s.tx.reported ++ [x] ∧ t.txDone = true ∧ t.tx.status = x) ∧
    (p.rst = true → t.dropValid = false ∧ t.txDone = false)

/-- R187, decision D10: when a window expires in the cycle in which a byte is offered, the expiry is performed first, and
the byte is the type byte of a new packet. -/
def Obligations.ExpiryBeforeTheByteOfItsCycle : Prop :=
  ∀ (s : State) (p : PortIn) (rest : List Input), s.Inv → s.inputs = .cycle p :: rest →
    s.rx.state = .awaitLength ∨ s.rx.state = .awaitBody → s.rx.timer = 1 →
    p.rst = false → p.tick = true → p.rxValid = true →
    ∃ t, step s = .next t ∧ t.rx.state = .awaitLength ∧ t.rx.cnt = 1 ∧ t.rx.held = [p.rxData] ∧
      t.rx.timer = s.cfg.timeoutTicks ∧ t.rx.actions = s.rx.actions ++ [.drop .timeout] ∧
      t.rx.dropValid = true ∧ t.rx.dropReason = .timeout

/-- R182, for the two groups the block drives: `pkt_valid` with its packet, and `tx_valid` with its byte, once raised are
held until the transfer, unless `rst` or, for `tx_valid`, a write failure intervenes. -/
def Obligations.OfferedValuesAreHeld : Prop :=
  ∀ (s t : State) (p : PortIn) (rest : List Input), s.inputs = .cycle p :: rest → p.rst = false →
    step s = .next t →
    (s.pktValid = true → p.pktReady = false → t.pktValid = true ∧ t.pktOut = s.pktOut) ∧
    (s.txValid = true → p.txReady = false → p.txFail = false → t.txValid = true ∧ t.txData = s.txData)

/-- R244: from a quiescent state, a cycle that offers no byte, no request and no close leaves a quiescent state, with
nothing emitted; a state that holds a completed packet is not quiescent. -/
def Obligations.QuiescentStaysQuiescent : Prop :=
  (∀ (s t : State) (p : PortIn) (rest : List Input), s.quiescent = true → s.inputs = .cycle p :: rest →
    p.rxValid = false → p.rxClosed = false → p.txqValid = false → step s = .next t →
      t.quiescent = true ∧ t.rx.actions = s.rx.actions ∧ t.tx.actions = s.tx.actions) ∧
  ∀ s : State, s.pktValid = true → s.quiescent = false

/-- The readings of R145, for the layers above the block: keys, fan speed, temperature, and their errors. -/
def Obligations.ReportReadings : Prop :=
  (∀ k : Byte,
    (1 ≤ k.toNat ∧ k.toNat ≤ 6 → readReport 0x80 [k] = some (.keyPressed k.toNat)) ∧
    (7 ≤ k.toNat ∧ k.toNat ≤ 12 → readReport 0x80 [k] = some (.keyReleased (k.toNat - 6))) ∧
    (k.toNat = 0 ∨ 12 < k.toNat → readReport 0x80 [k] = some .unknownKey)) ∧
  (∀ a b c d : Byte,
    readReport 0x81 [a, 0, 0, 0] = some .fanAbsent ∧
    (¬(b = 0 ∧ c = 0 ∧ d = 0) → readReport 0x81 [a, b, c, d] = some (.fanSpeed a b (c ++ d))) ∧
    readReport 0x82 [a, b, c, 0] = some .sensorFault ∧
    (d ≠ 0 → readReport 0x82 [a, b, c, d] = some (.temperature a (b ++ c))))
end

