-- ==== Sys2Proof/Laws/State.lean ====
section
/-! SUPPORT. One lemma per field per update of a state record, each true by rfl. -/

namespace Sys2Proof.Machine

/-! ### `clearPulse` -/

@[simp] theorem RxSide.clearPulse_state (r : RxSide) : (r.clearPulse).state = r.state := rfl
@[simp] theorem RxSide.clearPulse_cnt (r : RxSide) : (r.clearPulse).cnt = r.cnt := rfl
@[simp] theorem RxSide.clearPulse_buf (r : RxSide) : (r.clearPulse).buf = r.buf := rfl
@[simp] theorem RxSide.clearPulse_timer (r : RxSide) : (r.clearPulse).timer = r.timer := rfl
@[simp] theorem RxSide.clearPulse_dropValid (r : RxSide) : (r.clearPulse).dropValid = false := rfl
@[simp] theorem RxSide.clearPulse_dropReason (r : RxSide) : (r.clearPulse).dropReason = r.dropReason := rfl
@[simp] theorem RxSide.clearPulse_actions (r : RxSide) : (r.clearPulse).actions = r.actions := rfl

/-! ### `drop` -/

@[simp] theorem RxSide.drop_state (d : DropReason) (r : RxSide) : (r.drop d).state = .awaitType := rfl
@[simp] theorem RxSide.drop_cnt (d : DropReason) (r : RxSide) : (r.drop d).cnt = 0 := rfl
@[simp] theorem RxSide.drop_buf (d : DropReason) (r : RxSide) : (r.drop d).buf = r.buf := rfl
@[simp] theorem RxSide.drop_timer (d : DropReason) (r : RxSide) : (r.drop d).timer = r.timer := rfl
@[simp] theorem RxSide.drop_dropValid (d : DropReason) (r : RxSide) : (r.drop d).dropValid = true := rfl
@[simp] theorem RxSide.drop_dropReason (d : DropReason) (r : RxSide) : (r.drop d).dropReason = d := rfl
@[simp] theorem RxSide.drop_actions (d : DropReason) (r : RxSide) : (r.drop d).actions = r.actions ++ [.drop d] := rfl

/-! ### `store` -/

@[simp] theorem RxSide.store_state (b : Byte) (r : RxSide) : (r.store b).state = r.state := rfl
@[simp] theorem RxSide.store_cnt (b : Byte) (r : RxSide) : (r.store b).cnt = r.cnt + 1 := rfl
@[simp] theorem RxSide.store_buf (b : Byte) (r : RxSide) : (r.store b).buf = r.buf.put r.cnt.toNat b := rfl
@[simp] theorem RxSide.store_timer (b : Byte) (r : RxSide) : (r.store b).timer = r.timer := rfl
@[simp] theorem RxSide.store_dropValid (b : Byte) (r : RxSide) : (r.store b).dropValid = r.dropValid := rfl
@[simp] theorem RxSide.store_dropReason (b : Byte) (r : RxSide) : (r.store b).dropReason = r.dropReason := rfl
@[simp] theorem RxSide.store_actions (b : Byte) (r : RxSide) : (r.store b).actions = r.actions := rfl

/-! ### `toReset` -/

@[simp] theorem RxSide.toReset_state (r : RxSide) : (r.toReset).state = .awaitType := rfl
@[simp] theorem RxSide.toReset_cnt (r : RxSide) : (r.toReset).cnt = 0 := rfl
@[simp] theorem RxSide.toReset_buf (r : RxSide) : (r.toReset).buf = r.buf := rfl
@[simp] theorem RxSide.toReset_timer (r : RxSide) : (r.toReset).timer = r.timer := rfl
@[simp] theorem RxSide.toReset_dropValid (r : RxSide) : (r.toReset).dropValid = false := rfl
@[simp] theorem RxSide.toReset_dropReason (r : RxSide) : (r.toReset).dropReason = .none := rfl
@[simp] theorem RxSide.toReset_actions (r : RxSide) : (r.toReset).actions = r.actions := rfl

/-! ### `clearPulse` -/

@[simp] theorem TxSide.clearPulse_state (t : TxSide) : (t.clearPulse).state = t.state := rfl
@[simp] theorem TxSide.clearPulse_buf (t : TxSide) : (t.clearPulse).buf = t.buf := rfl
@[simp] theorem TxSide.clearPulse_len (t : TxSide) : (t.clearPulse).len = t.len := rfl
@[simp] theorem TxSide.clearPulse_idx (t : TxSide) : (t.clearPulse).idx = t.idx := rfl
@[simp] theorem TxSide.clearPulse_done (t : TxSide) : (t.clearPulse).done = false := rfl
@[simp] theorem TxSide.clearPulse_status (t : TxSide) : (t.clearPulse).status = t.status := rfl
@[simp] theorem TxSide.clearPulse_actions (t : TxSide) : (t.clearPulse).actions = t.actions := rfl

/-! ### `finish` -/

@[simp] theorem TxSide.finish_state (x : TxStatus) (t : TxSide) : (t.finish x).state = t.state := rfl
@[simp] theorem TxSide.finish_buf (x : TxStatus) (t : TxSide) : (t.finish x).buf = t.buf := rfl
@[simp] theorem TxSide.finish_len (x : TxStatus) (t : TxSide) : (t.finish x).len = t.len := rfl
@[simp] theorem TxSide.finish_idx (x : TxStatus) (t : TxSide) : (t.finish x).idx = t.idx := rfl
@[simp] theorem TxSide.finish_done (x : TxStatus) (t : TxSide) : (t.finish x).done = true := rfl
@[simp] theorem TxSide.finish_status (x : TxStatus) (t : TxSide) : (t.finish x).status = x := rfl
@[simp] theorem TxSide.finish_actions (x : TxStatus) (t : TxSide) : (t.finish x).actions = t.actions ++ [.txDone x] := rfl

/-! ### `stop` -/

@[simp] theorem TxSide.stop_state (x : TxStatus) (t : TxSide) : (t.stop x).state = .idle := rfl
@[simp] theorem TxSide.stop_buf (x : TxStatus) (t : TxSide) : (t.stop x).buf = t.buf := rfl
@[simp] theorem TxSide.stop_len (x : TxStatus) (t : TxSide) : (t.stop x).len = t.len := rfl
@[simp] theorem TxSide.stop_idx (x : TxStatus) (t : TxSide) : (t.stop x).idx = 0 := rfl
@[simp] theorem TxSide.stop_done (x : TxStatus) (t : TxSide) : (t.stop x).done = true := rfl
@[simp] theorem TxSide.stop_status (x : TxStatus) (t : TxSide) : (t.stop x).status = x := rfl
@[simp] theorem TxSide.stop_actions (x : TxStatus) (t : TxSide) : (t.stop x).actions = t.actions ++ [.txDone x] := rfl

/-! ### `emit` -/

@[simp] theorem TxSide.emit_state (t : TxSide) : (t.emit).state = t.state := rfl
@[simp] theorem TxSide.emit_buf (t : TxSide) : (t.emit).buf = t.buf := rfl
@[simp] theorem TxSide.emit_len (t : TxSide) : (t.emit).len = t.len := rfl
@[simp] theorem TxSide.emit_idx (t : TxSide) : (t.emit).idx = t.idx + 1 := rfl
@[simp] theorem TxSide.emit_done (t : TxSide) : (t.emit).done = t.done := rfl
@[simp] theorem TxSide.emit_status (t : TxSide) : (t.emit).status = t.status := rfl
@[simp] theorem TxSide.emit_actions (t : TxSide) : (t.emit).actions = t.actions ++ [.txOut (t.buf.byte t.idx.toNat)] := rfl

/-! ### `toReset` -/

@[simp] theorem TxSide.toReset_state (t : TxSide) : (t.toReset).state = .idle := rfl
@[simp] theorem TxSide.toReset_buf (t : TxSide) : (t.toReset).buf = t.buf := rfl
@[simp] theorem TxSide.toReset_len (t : TxSide) : (t.toReset).len = t.len := rfl
@[simp] theorem TxSide.toReset_idx (t : TxSide) : (t.toReset).idx = 0 := rfl
@[simp] theorem TxSide.toReset_done (t : TxSide) : (t.toReset).done = false := rfl
@[simp] theorem TxSide.toReset_status (t : TxSide) : (t.toReset).status = .ok := rfl
@[simp] theorem TxSide.toReset_actions (t : TxSide) : (t.toReset).actions = t.actions := rfl

/-! ### `beginCycle` -/

@[simp] theorem State.beginCycle_cfg (s : State) : s.beginCycle.cfg = s.cfg := rfl
@[simp] theorem State.beginCycle_rx (s : State) : s.beginCycle.rx = s.rx.clearPulse := rfl
@[simp] theorem State.beginCycle_tx (s : State) : s.beginCycle.tx = s.tx.clearPulse := rfl
@[simp] theorem State.beginCycle_inputs (s : State) : s.beginCycle.inputs = s.inputs := rfl

/-! ### What the updates keep readable -/

@[simp] theorem RxSide.clearPulse_held (r : RxSide) : r.clearPulse.held = r.held := rfl
@[simp] theorem RxSide.clearPulse_packet (c : Config) (r : RxSide) : r.clearPulse.packet c = r.packet c := rfl
@[simp] theorem RxSide.clearPulse_windowRuns (r : RxSide) : r.clearPulse.windowRuns = r.windowRuns := rfl
@[simp] theorem RxSide.clearPulse_clearPulse (r : RxSide) : r.clearPulse.clearPulse = r.clearPulse := rfl
@[simp] theorem TxSide.clearPulse_clearPulse (t : TxSide) : t.clearPulse.clearPulse = t.clearPulse := rfl
@[simp] theorem State.beginCycle_beginCycle (s : State) : s.beginCycle.beginCycle = s.beginCycle := rfl

end Sys2Proof.Machine
end

