-- ==== Sys2Proof/Laws/Buffer.lean ====
section
/-! SUPPORT. The packet buffers: reading after writing, and slices. -/

namespace Sys2Proof.Machine

@[simp] theorem Buffer.toList_length (buf : Buffer) : buf.toList.length = 26 := by simp

theorem Buffer.toList_put (buf : Buffer) (i : Nat) (b : Byte) :
    (buf.put i b).toList = buf.toList.set i b := by
  simp [Buffer.put, Vector.setIfInBounds]; rfl

/-- Reading the register just written. -/
theorem Buffer.byte_put_same (buf : Buffer) {i : Nat} (b : Byte) (h : i < 26) : (buf.put i b).byte i = b := by
  simp [Buffer.byte, Buffer.toList_put, h]

/-- Reading another register. -/
theorem Buffer.byte_put_other (buf : Buffer) {i j : Nat} (b : Byte) (h : i ≠ j) :
    (buf.put i b).byte j = buf.byte j := by
  simp [Buffer.byte, Buffer.toList_put, h]

theorem Buffer.slice_length (buf : Buffer) (i j : Nat) (h : j ≤ 26) : (buf.slice i j).length = j - i := by
  simp [Buffer.slice, h]

/-- A slice from 0 ends in the byte before its end. -/
theorem Buffer.slice_succ (buf : Buffer) {n : Nat} (h : n < 26) :
    buf.slice 0 (n + 1) = buf.slice 0 n ++ [buf.byte n] := by
  simp [Buffer.slice, Buffer.byte, List.take_add_one, h]

/-- Writing above a slice leaves it. -/
theorem Buffer.slice_put_above (buf : Buffer) {n i : Nat} (b : Byte) (h : n ≤ i) :
    (buf.put i b).slice 0 n = buf.slice 0 n := by
  simp [Buffer.slice, Buffer.toList_put, List.take_set_of_le h]

/-- Storing the next byte extends the slice by it. -/
theorem Buffer.slice_put (buf : Buffer) {n : Nat} (b : Byte) (h : n < 26) :
    (buf.put n b).slice 0 (n + 1) = buf.slice 0 n ++ [b] := by
  rw [Buffer.slice_succ _ h, Buffer.slice_put_above _ _ (le_refl n), Buffer.byte_put_same _ _ h]

/-- The bytes of a slice are the registers' bytes. -/
theorem Buffer.byte_of_slice {buf buf' : Buffer} {n k : Nat} (h : buf'.slice 0 n = buf.slice 0 n) (hk : k < n) :
    buf'.byte k = buf.byte k := by
  have h' : (buf'.slice 0 n)[k]? = (buf.slice 0 n)[k]? := by rw [h]
  simpa [Buffer.slice, Buffer.byte, List.getElem?_take, hk] using congrArg (Option.getD · 0) h'

/-- What a block write does to one register. -/
theorem Buffer.byte_write (buf : Buffer) (i : Nat) (s : List Byte) (k : Nat) (h : i + s.length ≤ 26) :
    (buf.write i s).byte k = if i ≤ k ∧ k < i + s.length then s.getD (k - i) 0 else buf.byte k := by
  induction s generalizing buf i with
  | nil => simp [Buffer.write]
  | cons b bs ih =>
    simp only [List.length_cons] at h
    rw [Buffer.write, ih _ _ (by omega)]
    by_cases hik : i = k
    · subst hik
      simp [Buffer.byte_put_same _ _ (show i < 26 by omega)]
    · rw [Buffer.byte_put_other _ _ hik]
      by_cases hin : i + 1 ≤ k ∧ k < i + 1 + bs.length
      · have hk : k - i = (k - (i + 1)) + 1 := by omega
        have hin' : i ≤ k ∧ k < i + (bs.length + 1) := by omega
        simp only [hin, and_self, if_true, List.length_cons, hin', hk, List.getD_cons_succ]
      · have hin' : ¬(i ≤ k ∧ k < i + (bs.length + 1)) := by omega
        simp only [hin, if_false, List.length_cons, hin']

/-- Two buffers with equal registers have equal slices. -/
theorem Buffer.slice_congr {buf buf' : Buffer} {n : Nat} (h : ∀ k < n, buf'.byte k = buf.byte k) (hn : n ≤ 26) :
    buf'.slice 0 n = buf.slice 0 n := by
  induction n with
  | zero => simp [Buffer.slice]
  | succ n ih =>
    rw [Buffer.slice_succ _ (by omega), Buffer.slice_succ _ (by omega), h n (by omega),
      ih (fun k hk => h k (by omega)) (by omega)]

/-- A block write from 0 is read back whole. -/
theorem Buffer.slice_write (buf : Buffer) (s : List Byte) (h : s.length ≤ 26) :
    (buf.write 0 s).slice 0 s.length = s := by
  apply List.ext_getElem
  · rw [Buffer.slice_length _ _ _ h]; omega
  · intro k hk hk'
    have hb := Buffer.byte_write buf 0 s k (by omega)
    simp only [Nat.zero_le, Nat.zero_add, hk', and_self, if_true, Nat.sub_zero] at hb
    have : (buf.write 0 s).byte k = s[k] := by simpa [hk'] using hb
    simpa [Buffer.slice, Buffer.byte, show k < 26 by omega] using this

end Sys2Proof.Machine
end

