-- ==== Sys2Proof/Laws/Ops.lean ====
section
/-! SUPPORT. What the shared operations can do: sequencing, and operations of one side. -/

namespace Sys2Proof.Machine

@[simp] theorem andThen_next (s : State) (f : State → Result) : andThen (.next s) f = f s := rfl
@[simp] theorem andThen_fault (r : Fault) (f : State → Result) : andThen (.fault r) f = .fault r := rfl
@[simp] theorem andThen_refused (r : Refusal) (f : State → Result) : andThen (.refused r) f = .refused r := rfl

/-- A sequence completes exactly when both parts do. -/
theorem andThen_eq_next {o : Result} {f : State → Result} {t : State} :
    andThen o f = .next t ↔ ∃ s, o = .next s ∧ f s = .next t := by
  cases o <;> simp

theorem andThen_assoc (o : Result) (f g : State → Result) :
    andThen (andThen o f) g = andThen o fun s => andThen (f s) g := by
  cases o <;> rfl

/-- An operation of the receive side completes exactly when it does on that side, and changes nothing else. -/
theorem onRx_eq_next {op : Config → RxSide → Except Fault RxSide} {s t : State} :
    onRx op s = .next t ↔ ∃ r, op s.cfg s.rx = .ok r ∧ t = { s with rx := r } := by
  unfold onRx
  cases op s.cfg s.rx <;> simp [eq_comm]

theorem onRx_eq_fault {op : Config → RxSide → Except Fault RxSide} {s : State} {e : Fault} :
    onRx op s = .fault e ↔ op s.cfg s.rx = .error e := by
  unfold onRx
  cases op s.cfg s.rx <;> simp

theorem onRx_ne_refused (op : Config → RxSide → Except Fault RxSide) (s : State) (x : Refusal) :
    onRx op s ≠ .refused x := by
  unfold onRx
  cases op s.cfg s.rx <;> simp

/-- An operation of the transmit side completes exactly when it does on that side, and changes nothing else. -/
theorem onTx_eq_next {op : Config → TxSide → Except Fault TxSide} {s t : State} :
    onTx op s = .next t ↔ ∃ x, op s.cfg s.tx = .ok x ∧ t = { s with tx := x } := by
  unfold onTx
  cases op s.cfg s.tx <;> simp [eq_comm]

theorem onTx_eq_fault {op : Config → TxSide → Except Fault TxSide} {s : State} {e : Fault} :
    onTx op s = .fault e ↔ op s.cfg s.tx = .error e := by
  unfold onTx
  cases op s.cfg s.tx <;> simp

theorem onTx_ne_refused (op : Config → TxSide → Except Fault TxSide) (s : State) (x : Refusal) :
    onTx op s ≠ .refused x := by
  unfold onTx
  cases op s.cfg s.tx <;> simp

/-- Legal parameters, written out. -/
theorem Config.legal_iff (c : Config) :
    c.legal = true ↔ c.maxData ≤ 22 ∧ c.crcPolyR = c.crcPoly.reverse ∧ c.crcReflect = true ∧
      1 ≤ c.timeoutTicks ∧ c.timeoutTicks < 2 ^ c.timerW ∧ c.minFrame = 4 ∧ c.maxFrame = c.maxData + 4 := by
  simp only [Config.legal, Bool.and_eq_true, decide_eq_true_eq]
  constructor
  · rintro ⟨⟨⟨⟨⟨⟨h1, h2⟩, h3⟩, h4⟩, h5⟩, h6⟩, h7⟩
    exact ⟨by omega, h4, h5, h6, h7, h1, h2⟩
  · rintro ⟨h, h4, h5, h6, h7, h1, h2⟩
    exact ⟨⟨⟨⟨⟨⟨h1, h2⟩, by omega⟩, h4⟩, h5⟩, h6⟩, h7⟩

end Sys2Proof.Machine
end

