-- ==== Sys2Proof/Laws/Checksum.lean ====
section
/-! SUPPORT. Small facts about the checksum unit. -/

namespace Sys2Proof.Machine

theorem halfOf_getLsbD (hi lo : Byte) (i : Nat) :
    (halfOf hi lo).getLsbD i = if i < 8 then lo.getLsbD i else hi.getLsbD (i - 8) :=
  BitVec.getLsbD_append

@[simp] theorem halfOf_hi_lo (k : Half) : halfOf (crcHi k) (crcLo k) = k := by
  apply BitVec.eq_of_getLsbD_eq
  intro i hi
  rw [halfOf_getLsbD]
  unfold crcHi crcLo
  by_cases h : i < 8
  · simp [h]
  · simp [h, show i - 8 < 8 by omega, show 8 + (i - 8) = i by omega]

@[simp] theorem crcLo_halfOf (hi lo : Byte) : crcLo (halfOf hi lo) = lo := by
  apply BitVec.eq_of_getLsbD_eq
  intro i h
  simp [crcLo, halfOf_getLsbD, h]

@[simp] theorem crcHi_halfOf (hi lo : Byte) : crcHi (halfOf hi lo) = hi := by
  apply BitVec.eq_of_getLsbD_eq
  intro i h
  simp [crcHi, halfOf_getLsbD, h]

@[simp] theorem appendCrc_length (c : Config) (s : List Byte) : (appendCrc c s).length = s.length + 2 := by
  simp [appendCrc]

/-- Eight shifts are one call of `crcShifts`. -/
theorem crcStep_eq (c : Config) (k : Half) (b : Byte) : crcStep c k b = crcShifts c 8 (k ^^^ b.setWidth 16) := rfl

@[simp] theorem crcShifts_zero (c : Config) (k : Half) : crcShifts c 0 k = k := rfl

theorem crcShifts_succ (c : Config) (n : Nat) (k : Half) : crcShifts c (n + 1) k = crcShifts c n (crcShift c k) := rfl

/-- The data component on two bytes or more. -/
theorem stripAndVerify_fst (c : Config) {s : List Byte} (h : 2 ≤ s.length) :
    (stripAndVerify c s).1 = s.take (s.length - 2) := by
  simp [stripAndVerify, show ¬ s.length < 2 by omega]

end Sys2Proof.Machine
end

