-- ==== Sys2Proof/Laws/Receive.lean ====
section
/-! SUPPORT. What each operation of the receive framer can do, once each. -/

namespace Sys2Proof.Machine

/-! ### Held bytes -/

/-- Storing a byte puts it after the held ones. -/
theorem RxSide.held_store (b : Byte) (r : RxSide) (h : r.cnt.toNat < 26) : (r.store b).held = r.held ++ [b] := by
  have hc : (r.cnt + 1).toNat = r.cnt.toNat + 1 := by
    rw [BitVec.toNat_add]; simp; omega
  unfold RxSide.held
  rw [RxSide.store_cnt, RxSide.store_buf, hc, Buffer.slice_put _ _ h]

theorem RxSide.store_cnt_toNat (b : Byte) (r : RxSide) (h : r.cnt.toNat < 26) :
    (r.store b).cnt.toNat = r.cnt.toNat + 1 := by
  rw [RxSide.store_cnt, BitVec.toNat_add]; simp; omega

theorem RxSide.held_length (r : RxSide) (h : r.cnt.toNat ≤ 26) : r.held.length = r.cnt.toNat := by
  simp [RxSide.held, Buffer.slice, h]

/-! ### Inversion of the operations -/

theorem rxByteType_eq_ok {b : Byte} {c : Config} {r r' : RxSide} :
    rxByteType b c r = .ok r' ↔ r.state = .awaitType ∧
      r' = { r with buf := r.buf.put 0 b, cnt := 1, timer := c.timeoutTicks, state := .awaitLength } := by
  unfold rxByteType
  split <;> simp_all [eq_comm]

theorem rxByteLength_eq_ok {b : Byte} {c : Config} {r r' : RxSide} :
    rxByteLength b c r = .ok r' ↔ r.state = .awaitLength ∧
      (c.maxData < b.toNat ∧ r' = r.drop .badLength ∨
        b.toNat ≤ c.maxData ∧ r' = { r with buf := r.buf.put 1 b, cnt := 2, state := .awaitBody }) := by
  unfold rxByteLength
  split
  · split
    · simp_all [eq_comm, show ¬ b.toNat ≤ c.maxData by omega]
    · simp_all [eq_comm]
  · simp_all

theorem rxByteBody_eq_ok {b : Byte} {c : Config} {r r' : RxSide} :
    rxByteBody b c r = .ok r' ↔ r.state = .awaitBody ∧ r.cnt.toNat < 26 ∧ r' = (r.store b).judge c := by
  unfold rxByteBody bufferSize
  split
  · split <;> simp_all [eq_comm]
  · simp_all

/-- Judging does nothing, completes the packet, or drops it. -/
theorem RxSide.judge_cases (c : Config) (r : RxSide) :
    (r.cnt.toNat ≠ (r.buf.byte 1).toNat + 4 ∧ r.judge c = r) ∨
    (r.cnt.toNat = (r.buf.byte 1).toNat + 4 ∧ (stripAndVerify c r.held).2 = true ∧
      r.judge c = { r with state := .complete }) ∨
    (r.cnt.toNat = (r.buf.byte 1).toNat + 4 ∧ (stripAndVerify c r.held).2 = false ∧
      r.judge c = r.drop .badCrc) := by
  unfold RxSide.judge
  split
  · cases h : (stripAndVerify c r.held).2 <;> simp_all
  · exact .inl ⟨‹_›, rfl⟩

theorem rxTick_eq_ok {c : Config} {r r' : RxSide} :
    rxTick c r = .ok r' ↔
      (r.windowRuns = true ∧ r.timer ≤ 1 ∧ r' = r.drop .timeout) ∨
      (r.windowRuns = true ∧ 1 < r.timer ∧ r' = { r with timer := r.timer - 1 }) ∨
      (r.windowRuns = false ∧ r' = r) := by
  unfold rxTick
  cases hw : r.windowRuns
  · simp [eq_comm]
  · by_cases ht : r.timer ≤ 1
    · simp [ht, eq_comm, show ¬ 1 < r.timer by omega]
    · simp [ht, eq_comm, show 1 < r.timer by omega]

theorem rxAccept_eq_ok {c : Config} {r r' : RxSide} :
    rxAccept c r = .ok r' ↔ r.state = .complete ∧
      r' = { r with actions := r.actions ++ [.deliver (r.packet c)], cnt := 0, state := .awaitType } := by
  unfold rxAccept
  split <;> simp_all [eq_comm]

theorem rxClose_eq_ok {c : Config} {r r' : RxSide} :
    rxClose c r = .ok r' ↔ (r.state = .awaitType ∨ r.state = .awaitLength ∨ r.state = .awaitBody) ∧
      r' = { r with cnt := 0, state := .terminated } := by
  unfold rxClose
  split <;> simp_all [eq_comm]

/-- RX_BYTE is the row of the present `rx_state`. -/
theorem rxByte_eq_ok {b : Byte} {c : Config} {r r' : RxSide} :
    rxByte b c r = .ok r' ↔
      rxByteType b c r = .ok r' ∨ rxByteLength b c r = .ok r' ∨ rxByteBody b c r = .ok r' := by
  cases h : r.state <;> simp [rxByte, rxByteType, rxByteLength, rxByteBody, h]

/-! ### The meanings -/

@[simp] theorem exec_tick (s : State) : exec .tick s = onRx rxTick s := rfl
@[simp] theorem exec_pktAccept (s : State) : exec .pktAccept s = onRx rxAccept s := rfl
@[simp] theorem exec_rxByteType (b : Byte) (s : State) : exec (.rxByteType b) s = onRx (rxByteType b) s := rfl
@[simp] theorem exec_rxByteLength (b : Byte) (s : State) : exec (.rxByteLength b) s = onRx (rxByteLength b) s := rfl
@[simp] theorem exec_rxByteBody (b : Byte) (s : State) : exec (.rxByteBody b) s = onRx (rxByteBody b) s := rfl
@[simp] theorem exec_rxClose (s : State) : exec .rxClose s = onRx rxClose s := rfl
@[simp] theorem exec_reset (s : State) :
    exec .reset s = .next { s with rx := s.rx.toReset, tx := s.tx.toReset } := rfl

/-- TICK always completes. -/
theorem rxTick_total (c : Config) (r : RxSide) : ∃ r', rxTick c r = .ok r' := by
  unfold rxTick
  split
  · split <;> exact ⟨_, rfl⟩
  · exact ⟨_, rfl⟩

/-! ### Sequences of bytes -/

@[simp] theorem receiveBytes_nil (s : State) : receiveBytes [] s = .next s := rfl

theorem receiveBytes_cons (b : Byte) (bs : List Byte) (s : State) :
    receiveBytes (b :: bs) s = andThen (onRx (rxByte b) s.beginCycle) (receiveBytes bs) := rfl

theorem receiveBytes_append (as bs : List Byte) (s : State) :
    receiveBytes (as ++ bs) s = andThen (receiveBytes as s) (receiveBytes bs) := by
  induction as generalizing s with
  | nil => rfl
  | cons a as ih =>
    simp only [List.cons_append, receiveBytes_cons, andThen_assoc]
    congr 1
    funext u
    exact ih u

end Sys2Proof.Machine
end

