-- ==== Sys2Proof/Laws/Transmit.lean ====
section
/-! SUPPORT. What each operation of the transmit framer can do, once each, and the rows of the 19 packet types. -/

namespace Sys2Proof.Machine

theorem txStart_eq_ok {code plen : Byte} {payload : List Byte} {c : Config} {t t' : TxSide} :
    txStart code plen payload c t = .ok t' ↔ t.state = .idle ∧
      (c.maxData < plen.toNat ∧ t' = t.finish .payloadTooLarge ∨
        plen.toNat ≤ c.maxData ∧ t' = { t with
          buf := t.buf.write 0 (appendCrc c (requestBody code plen payload))
          len := plen.setWidth 5 + 4
          idx := 0
          state := .send }) := by
  unfold txStart
  split
  · split
    · simp_all [eq_comm, show ¬ plen.toNat ≤ c.maxData by omega]
    · simp_all [eq_comm]
  · simp_all

theorem txByte_eq_ok {c : Config} {t t' : TxSide} :
    txByte c t = .ok t' ↔ t.state = .send ∧ t.idx.toNat < 26 ∧
      (t.idx + 1 = t.len ∧ t' = t.emit.stop .ok ∨ t.idx + 1 ≠ t.len ∧ t' = t.emit) := by
  unfold txByte bufferSize
  split
  · split
    · by_cases h : t.idx + 1 = t.len <;> simp_all [eq_comm]
    · simp_all
  · simp_all

theorem txFail_eq_ok {c : Config} {t t' : TxSide} :
    txFail c t = .ok t' ↔ t.state = .send ∧ t' = t.stop .ioError := by
  unfold txFail
  split <;> simp_all [eq_comm]

@[simp] theorem exec_txStart (code plen : Byte) (payload : List Byte) (s : State) :
    exec (.txStart code plen payload) s = onTx (txStart code plen payload) s := rfl
@[simp] theorem exec_txByte (s : State) : exec .txByte s = onTx txByte s := rfl
@[simp] theorem exec_txFail (s : State) : exec .txFail s = onTx txFail s := rfl

/-- A counter that is below 26 can be stepped. -/
theorem count_succ_toNat (n : Count) (h : n.toNat < 26) : (n + 1).toNat = n.toNat + 1 := by
  rw [BitVec.toNat_add]; simp; omega

/-- `tx_len <- plen + 4` does not wrap for a payload that fits. -/
theorem txLen_toNat (plen : Byte) (h : plen.toNat ≤ 22) : (plen.setWidth 5 + 4 : Count).toNat = plen.toNat + 4 := by
  rw [BitVec.toNat_add, BitVec.toNat_setWidth]; simp; omega

/-! ### Packets of the 19 types -/

/-- Every TYPE row is the transfer of its type byte. -/
theorem exec_transfer {i : Instr} {t : Byte} {x : Transfer} (ht : i.typeByte = some t) (hx : i.transfer = some x)
    (s : State) : exec i s = transfer t x s := by
  cases i <;> simp_all [Instr.typeByte, Instr.transfer] <;> subst ht <;> rfl

/-- An instruction that is a TYPE row has both a type byte and a transfer; an EVENT row has neither. -/
theorem typeByte_iff_transfer (i : Instr) : (∃ t, i.typeByte = some t) ↔ ∃ x, i.transfer = some x := by
  cases i <;> simp [Instr.typeByte, Instr.transfer]

end Sys2Proof.Machine
end

