-- ==== Sys2Proof/Laws/PerInstr.lean ====
section
/-! SUPPORT. Statements made per instruction: how many bytes its words take. -/

namespace Sys2Proof.Laws.EncodingLength

/-- A packet word has 2 to 26 bytes (R60, R63); an event word always 26 (assumption 6). -/
def Statement (i : Instr) : Prop :=
  i.wf = true → 2 ≤ (encode i).length ∧ (encode i).length ≤ 26 ∧ (i.format = .event → (encode i).length = 26)

/-- The bytes of a well-formed transfer. -/
theorem transfer_length (t : Byte) (x : Transfer) (h : x.wf = true) :
    2 ≤ (encodeTransfer t x).length ∧ (encodeTransfer t x).length ≤ 26 ∧
      (x.format = .event → (encodeTransfer t x).length = 26) := by
  cases x <;> have h := of_decide_eq_true h <;> simp only [formatMaxData] at h <;>
    simp [Transfer.format, encodeTransfer] <;> omega

theorem pingReq (x : Transfer) : Statement (.pingReq x) := transfer_length _ x
theorem clearReq (x : Transfer) : Statement (.clearReq x) := transfer_length _ x
theorem setSpriteReq (x : Transfer) : Statement (.setSpriteReq x) := transfer_length _ x
theorem setBacklightReq (x : Transfer) : Statement (.setBacklightReq x) := transfer_length _ x
theorem writeReq (x : Transfer) : Statement (.writeReq x) := transfer_length _ x
theorem setLedReq (x : Transfer) : Statement (.setLedReq x) := transfer_length _ x
theorem pingRsp (x : Transfer) : Statement (.pingRsp x) := transfer_length _ x
theorem clearRsp (x : Transfer) : Statement (.clearRsp x) := transfer_length _ x
theorem setSpriteRsp (x : Transfer) : Statement (.setSpriteRsp x) := transfer_length _ x
theorem setBacklightRsp (x : Transfer) : Statement (.setBacklightRsp x) := transfer_length _ x
theorem writeRsp (x : Transfer) : Statement (.writeRsp x) := transfer_length _ x
theorem setLedRsp (x : Transfer) : Statement (.setLedRsp x) := transfer_length _ x
theorem keyActivityRpt (x : Transfer) : Statement (.keyActivityRpt x) := transfer_length _ x
theorem fanSpeedRpt (x : Transfer) : Statement (.fanSpeedRpt x) := transfer_length _ x
theorem temperatureRpt (x : Transfer) : Statement (.temperatureRpt x) := transfer_length _ x
theorem reportOther (code6 : BitVec 6) (x : Transfer) : Statement (.reportOther code6 x) :=
  fun h => transfer_length _ x (Bool.and_eq_true_iff.1 h).1
theorem class01Other (code6 : BitVec 6) (x : Transfer) : Statement (.class01Other code6 x) :=
  fun h => transfer_length _ x (Bool.and_eq_true_iff.1 h).1
theorem class00Other (code6 : BitVec 6) (x : Transfer) : Statement (.class00Other code6 x) :=
  fun h => transfer_length _ x (Bool.and_eq_true_iff.1 h).1
theorem class11Other (code6 : BitVec 6) (x : Transfer) : Statement (.class11Other code6 x) := transfer_length _ x
theorem reset : Statement .reset := fun _ => by simp [encode, encodeBare]
theorem tick : Statement .tick := fun _ => by simp [encode, encodeBare]
theorem pktAccept : Statement .pktAccept := fun _ => by simp [encode, encodeBare]
theorem rxByteType (b : Byte) : Statement (.rxByteType b) := fun _ => by simp [encode, encodeRxByte]
theorem rxByteLength (b : Byte) : Statement (.rxByteLength b) := fun _ => by simp [encode, encodeRxByte]
theorem rxByteBody (b : Byte) : Statement (.rxByteBody b) := fun _ => by simp [encode, encodeRxByte]
theorem rxClose : Statement .rxClose := fun _ => by simp [encode, encodeBare]
theorem txStart (code plen : Byte) (payload : List Byte) : Statement (.txStart code plen payload) :=
  fun h => by simp_all [Instr.wf, encode]
theorem txFail : Statement .txFail := fun _ => by simp [encode, encodeBare]
theorem txByte : Statement .txByte := fun _ => by simp [encode, encodeBare]

end Sys2Proof.Laws.EncodingLength
end

