-- ==== Sys2Proof/Tests/Slice0.lean ====
section
/-! SUPPORT. Tests: well-formedness refuses what it should, words written out from the spec decode to what they stand for,
vectors of 95_test_vectors.md on single instructions, and for each statement with hypotheses a witness that meets them. -/

namespace Sys2Proof.Tests

-- The theorems of this file one after another: checked side by side they ask for too many threads.
set_option Elab.async false

open Sys2Proof.Machine

/-! ### Helpers -/

/-- The next state, if there is one. -/
def after (o : Result) : Option State :=
  match o with
  | .next s => some s
  | .fault _ | .refused _ => none

/-- The fault, if there is one. -/
def stopOf (o : Result) : Option Fault :=
  match o with
  | .fault r => some r
  | .next _ | .refused _ => none

theorem next_of {o : Result} (h : (after o).isSome = true) : ∃ t, o = .next t := by
  cases o with
  | next t => exact ⟨t, rfl⟩
  | fault r => cases h
  | refused r => cases h

theorem stop_of {o : Result} {r : Fault} (h : stopOf o = some r) : o = .fault r := by
  cases o with
  | next t => cases h
  | fault x => cases h; rfl
  | refused x => cases h

/-- The reset state with a receive side in the given state, holding the given bytes, with the given timer. -/
def receiving (st : RxState) (held : List Byte) (timer : Nat) : State :=
  { State.reset with rx := { RxSide.reset with
      state := st, cnt := BitVec.ofNat 5 held.length, buf := Buffer.write RxSide.reset.buf 0 held, timer := timer } }

/-- The reset state sending the given bytes, the next one at the given index. -/
def sending (frame : List Byte) (idx : Count) : State :=
  { State.reset with tx := { TxSide.reset with
      state := .send, buf := Buffer.write TxSide.reset.buf 0 frame, len := BitVec.ofNat 5 frame.length, idx := idx } }

/-- The state with one input. -/
def given (x : Input) (s : State) : State := { s with inputs := [x] }

/-- The state with another `TIMEOUT_TICKS`. -/
def withTimeout (n : Nat) (s : State) : State := { s with cfg := { s.cfg with timeoutTicks := n } }

/-- The state with another `MAX_DATA`, and `MAX_FRAME` with it. -/
def withMaxData (n : Nat) (s : State) : State := 
  { s with cfg := { s.cfg with maxData := n, maxFrame := n + 4 } }

def awaitingLength : State := receiving .awaitLength [0x40] 250
def awaitingBody : State := receiving .awaitBody [0x40, 0x00, 0x21] 17
def holdingPacket : State := receiving .complete [0x40, 0x00, 0x21, 0x49] 250
def terminated : State := receiving .terminated [] 0
def sendingClear : State := sending [0x06, 0x00, 0x97, 0x5B] 2

/-- What a state shows of the receive side: `rx_state`, `rx_cnt`, `rx_timer`, outputs (the notation of 95_test_vectors.md). -/
def rxView (s : State) : RxState × Nat × Nat × List RxAction := (s.rx.state, s.rx.cnt.toNat, s.rx.timer, s.rx.actions)

/-- What a state shows of the transmit side: `tx_state`, `tx_idx`, `tx_len`, outputs. -/
def txView (s : State) : TxState × Nat × Nat × List TxAction := (s.tx.state, s.tx.idx.toNat, s.tx.len.toNat, s.tx.actions)

/-- An event word: the vector, then `b`, `code`, `plen`, then the payload. -/
def eventWord (ev b code plen : Byte) (payload : List Byte) : List Byte :=
  ev :: b :: code :: plen :: (payload ++ List.replicate (22 - payload.length) 0)

/-! ### Well-formedness: an ill-formed term for each check -/

theorem test_wf_send_too_long : (Instr.pingReq (.send (List.replicate 23 0))).wf = false := by decide
theorem test_wf_sendOversize_too_short : (Instr.setLedReq (.sendOversize 22)).wf = false := by decide
theorem test_wf_receive_too_long : (Instr.pingRsp (.receive (List.replicate 23 0) 0)).wf = false := by decide
theorem test_wf_receiveOversize_too_short : (Instr.fanSpeedRpt (.receiveOversize 22)).wf = false := by decide
theorem test_wf_report_named : (Instr.reportOther 0x02 (.receive [] 0)).wf = false := by decide
theorem test_wf_response_named : (Instr.class01Other 0x22 (.receive [] 0)).wf = false := by decide
theorem test_wf_request_named : (Instr.class00Other 0x1F (.send [])).wf = false := by decide
theorem test_wf_class11_transfer : (Instr.class11Other 0x3F (.sendOversize 0)).wf = false := by decide
theorem test_wf_payload_lanes : (Instr.txStart 0 0 (List.replicate 21 0)).wf = false := by decide

/-! ### Decoding: a word for every constructor, written out from R60 to R67 and the opcode table -/

theorem test_decode_requests :
    decode .request .awaitType [0x00, 0x02, 0xAA, 0x55] = .ok (.pingReq (.send [0xAA, 0x55]), []) ∧
    decode .request .awaitType [0x06, 0x00] = .ok (.clearReq (.send []), []) ∧
    decode .request .awaitType [0x09, 0x01, 0x07, 0x99] = .ok (.setSpriteReq (.send [0x07]), [0x99]) ∧
    decode .request .awaitType [0x0E, 0x02, 0x64, 0x32] = .ok (.setBacklightReq (.send [0x64, 0x32]), []) ∧
    decode .request .awaitType [0x1F, 0x17] = .ok (.writeReq (.sendOversize 0x17), []) ∧
    decode .request .awaitType [0x22, 0x03, 0x01, 0x01, 0x32] = .ok (.setLedReq (.send [0x01, 0x01, 0x32]), []) := by
  decide

theorem test_decode_responses :
    decode .packet .awaitType [0x40, 0x00, 0x21, 0x49] = .ok (.pingRsp (.receive [] 0x4921), []) ∧
    decode .packet .awaitType [0x46, 0x00, 0xF1, 0x1D] = .ok (.clearRsp (.receive [] 0x1DF1), []) ∧
    decode .packet .awaitType [0x49, 0x17, 0x01] = .ok (.setSpriteRsp (.receiveOversize 0x17), [0x01]) ∧
    decode .packet .awaitType [0x4E, 0xFF] = .ok (.setBacklightRsp (.receiveOversize 0xFF), []) ∧
    decode .packet .awaitType [0x5F, 0x00, 0x78, 0x5F] = .ok (.writeRsp (.receive [] 0x5F78), []) ∧
    decode .packet .awaitType [0x62, 0x01, 0x02, 0x34, 0x12] = .ok (.setLedRsp (.receive [0x02] 0x1234), []) := by
  decide

theorem test_decode_reports :
    decode .packet .awaitType [0x80, 0x01, 0x01, 0x71, 0xC2] = .ok (.keyActivityRpt (.receive [0x01] 0xC271), []) ∧
    decode .packet .awaitType [0x81, 0x04, 0x02, 0x05, 0x00, 0x0A, 0x87, 0x74] =
      .ok (.fanSpeedRpt (.receive [0x02, 0x05, 0x00, 0x0A] 0x7487), []) ∧
    decode .packet .awaitType [0x82, 0x04, 0x01, 0x01, 0x90, 0x01, 0xD8, 0x99] =
      .ok (.temperatureRpt (.receive [0x01, 0x01, 0x90, 0x01] 0x99D8), []) := by
  decide

theorem test_decode_other_types :
    decode .packet .awaitType [0xBF, 0x00, 0xE1, 0xB6] = .ok (.reportOther 0x3F (.receive [] 0xB6E1), []) ∧
    decode .packet .awaitType [0x41, 0x00, 0x00, 0x00] = .ok (.class01Other 0x01 (.receive [] 0), []) ∧
    decode .request .awaitType [0x3F, 0x00] = .ok (.class00Other 0x3F (.send []), []) ∧
    decode .packet .awaitType [0xC6, 0x00, 0x3D, 0x91] = .ok (.class11Other 0x06 (.receive [] 0x913D), []) := by
  decide

theorem test_decode_events :
    decode .event .awaitType (eventWord 0x01 0 0 0 []) = .ok (.reset, []) ∧
    decode .event .awaitType (eventWord 0x02 0 0 0 []) = .ok (.tick, []) ∧
    decode .event .complete (eventWord 0x04 0 0 0 []) = .ok (.pktAccept, []) ∧
    decode .event .awaitType (eventWord 0x08 0xA5 0 0 []) = .ok (.rxByteType 0xA5, []) ∧
    decode .event .awaitLength (eventWord 0x08 0xA5 0 0 []) = .ok (.rxByteLength 0xA5, []) ∧
    decode .event .awaitBody (eventWord 0x08 0xA5 0 0 []) = .ok (.rxByteBody 0xA5, []) ∧
    decode .event .awaitType (eventWord 0x10 0 0 0 []) = .ok (.rxClose, []) ∧
    decode .event .awaitType (eventWord 0x20 0 0x1F 0x02 [0x48, 0x49]) =
      .ok (.txStart 0x1F 0x02 ([0x48, 0x49] ++ List.replicate 20 0), []) ∧
    decode .event .awaitType (eventWord 0x40 0 0 0 []) = .ok (.txFail, []) ∧
    decode .event .awaitType (eventWord 0x80 0 0 0 []) = .ok (.txByte, []) := by
  decide

theorem test_decode_refuses :
    decode .packet .awaitType [0x40, 0x01, 0x02, 0x03] = .error .truncated ∧
    decode .event .awaitType (eventWord 0x00 0 0 0 []) = .error .noEvent ∧
    decode .event .awaitType (eventWord 0x0A 0 0 0 []) = .error .severalEvents ∧
    decode .event .complete (eventWord 0x08 0 0 0 []) = .error .rxByteNotReady := by
  decide

/-! ### The checksum unit (95_test_vectors.md section 2) -/

theorem test_crc_step : crcStep Config.default 0xFFFF 0x40 = 0x4D83 ∧ crcStep Config.default 0 0x80 = 0x8408 := by
  decide +kernel

theorem test_crc16 :
    crc16 Config.default [0x31, 0x32, 0x33, 0x34, 0x35, 0x36, 0x37, 0x38, 0x39] = 0x906E ∧
    crc16 Config.default [] = 0x0000 ∧
    appendCrc Config.default [0x40, 0x00] = [0x40, 0x00, 0x21, 0x49] := by decide +kernel

theorem test_verify :
    stripAndVerify Config.default [0x40, 0x00, 0x21, 0x49] = ([0x40, 0x00], true) ∧
    stripAndVerify Config.default [0x40, 0x00, 0x21, 0x48] = ([0x40, 0x00], false) ∧
    stripAndVerify Config.default [0x40, 0x00, 0x49, 0x21] = ([0x40, 0x00], false) ∧
    stripAndVerify Config.default [0x00, 0x00] = ([], true) ∧
    stripAndVerify Config.default [0x12] = ([], false) := by decide +kernel

/-! ### The receive framer (section 3) -/

/-- V20. -/
theorem test_type_byte :
    (after (exec (.rxByteType 0x40) State.reset)).map rxView = some (.awaitLength, 1, 250, []) := by decide +kernel

/-- V22, V23. -/
theorem test_length_byte :
    (after (exec (.rxByteLength 0x16) awaitingLength)).map rxView = some (.awaitBody, 2, 250, []) ∧
    (after (exec (.rxByteLength 0x17) awaitingLength)).map rxView = some (.awaitType, 0, 250, [.drop .badLength]) := by
  decide +kernel

/-- The last byte of V26 and of V27. -/
theorem test_body_byte :
    (after (exec (.rxByteBody 0x49) awaitingBody)).map rxView = some (.complete, 4, 17, []) ∧
    (after (exec (.rxByteBody 0x48) awaitingBody)).map rxView = some (.awaitType, 0, 17, [.drop .badCrc]) := by
  decide +kernel

/-- The last ticks of V30 and V30a. -/
theorem test_tick :
    (after (exec .tick (receiving .awaitLength [0x40] 2))).map rxView = some (.awaitLength, 1, 1, []) ∧
    (after (exec .tick (receiving .awaitLength [0x40] 1))).map rxView = some (.awaitType, 0, 1, [.drop .timeout]) := by
  decide +kernel

/-- V34: the smallest `TIMEOUT_TICKS`. -/
theorem test_shortest_window :
    (after (andThen (exec (.rxByteType 0x40) (withTimeout 1 State.reset)) (exec .tick))).map rxView =
      some (.awaitType, 0, 1, [.drop .timeout]) := by decide +kernel

/-- V28. -/
theorem test_accept :
    (after (exec .pktAccept holdingPacket)).map rxView =
      some (.awaitType, 0, 250, [.deliver { type := 0x40, len := 0, data := [], isReport := false }]) := by decide +kernel

/-- V41. -/
theorem test_close : (after (exec .rxClose awaitingBody)).map rxView = some (.terminated, 0, 17, []) := by decide +kernel

/-- V38, V39. -/
theorem test_not_enabled :
    stopOf (step (given (.word .event (eventWord 0x08 0 0 0 [])) holdingPacket)) = some .rxByteNotEnabled ∧
    stopOf (step (given (.word .event (eventWord 0x04 0 0 0 [])) State.reset)) = some .pktAcceptNotEnabled := by
  decide +kernel

/-- V44, V44a, V44b. -/
theorem test_parse :
    parse Config.default [0x46, 0x00, 0xF1, 0x1C, 0x80, 0x01, 0x01, 0x71, 0xC2] =
      [{ type := 0x80, len := 1, data := [0x01], isReport := true }] ∧
    parse Config.default [0x40, 0x17, 0x40, 0x00, 0x21, 0x49] =
      [{ type := 0x40, len := 0, data := [], isReport := false }] ∧
    leftover Config.default [0x40, 0x00, 0x21] = [0x40, 0x00, 0x21] := by decide +kernel

/-! ### Packet types (section 4) -/

/-- V47. -/
theorem test_fan_report :
    (after (step (given (.word .packet [0x81, 0x04, 0x02, 0x05, 0x00, 0x0A, 0x87, 0x74]) State.reset))).map State.pktOut =
      some (some { type := 0x81, len := 4, data := [0x02, 0x05, 0x00, 0x0A], isReport := true }) := by decide +kernel

/-- V45: one bit of `crc_hi` inverted. -/
theorem test_fan_report_corrupted :
    (after (step (given (.word .packet [0x81, 0x04, 0x02, 0x05, 0x00, 0x0A, 0x87, 0x75]) State.reset))).map rxView =
      some (.awaitType, 0, 250, [.drop .badCrc]) := by decide +kernel

/-- V52: class 0b11 is a response. -/
theorem test_class11 :
    (after (exec (.class11Other 0x06 (.receive [] 0x913D)) State.reset)).map State.pktIsReport = some (some false) := by
  decide +kernel

/-- E8, E9, E10, E11, E13. -/
theorem test_report_readings :
    readReport 0x81 [2, 0, 0, 0] = some .fanAbsent ∧ readReport 0x81 [2, 5, 0, 10] = some (.fanSpeed 2 5 10) ∧
    readReport 0x82 [1, 0x01, 0x90, 0x01] = some (.temperature 1 400) ∧
    readReport 0x82 [1, 0x01, 0x90, 0x00] = some .sensorFault ∧ readReport 0x80 [12] = some (.keyReleased 6) := by decide

/-! ### The transmit framer (section 5) -/

/-- V53. -/
theorem test_send_clear :
    (after (exec (.clearReq (.send [])) State.reset)).map (fun s => (txView s, s.tx.buf.slice 0 4)) =
      some ((.send, 0, 4, []), [0x06, 0x00, 0x97, 0x5B]) := by decide +kernel

/-- P10: a refused request. -/
theorem test_send_too_large :
    (after (exec (.txStart 0x1F 23 (List.replicate 22 0)) State.reset)).map txView =
      some (.idle, 0, 0, [.txDone .payloadTooLarge]) := by decide +kernel

/-- The third and the last TxOut of V54. -/
theorem test_tx_byte :
    (after (exec .txByte sendingClear)).map txView = some (.send, 3, 4, [.txOut 0x97]) ∧
    (after (exec .txByte (sending [0x06, 0x00, 0x97, 0x5B] 3))).map txView =
      some (.idle, 0, 4, [.txOut 0x5B, .txDone .ok]) := by decide +kernel

/-- P5. -/
theorem test_tx_fail : (after (exec .txFail sendingClear)).map txView = some (.idle, 0, 4, [.txDone .ioError]) := by
  decide +kernel

/-! ### RESET (section 7) -/

/-- V74, V75. -/
theorem test_reset :
    (after (exec .reset holdingPacket)).map rxView = some (.awaitType, 0, 250, []) ∧
    (after (exec .reset sendingClear)).map txView = some (.idle, 0, 4, []) := by decide +kernel

/-! ### Clock cycles (section 6) -/

/-- The decision D10: the tick of a cycle comes before its byte. -/
theorem test_tick_before_byte :
    (after (step (given (.cycle { PortIn.quiet with tick := true, rxValid := true, rxData := 0x49 })
      (receiving .awaitBody [0x40, 0x00, 0x21] 1)))).map rxView = some (.awaitLength, 1, 250, [.drop .timeout]) := by
  decide +kernel

/-- V26: the packet ports; lanes at `pkt_len` and above hold no value. -/
theorem test_packet_ports :
    holdingPacket.ports.pktType = some 0x40 ∧ holdingPacket.ports.pktLen = some 0 ∧
    holdingPacket.ports.pktData = List.replicate 22 none ∧ holdingPacket.ports.pktIsReport = some false ∧
    holdingPacket.ports.rxReady = false ∧ sendingClear.ports.txData = some 0x97 := by
  refine ⟨?_, ?_, ?_, ?_, ?_, ?_⟩ <;> decide +kernel

/-- Bytes of a word after its packet are dropped (assumption 24); a list of 256 bytes is refused (assumption 25). -/
theorem test_model_choices :
    (after (step (given (.word .packet [0x40, 0x17, 0x40, 0x00]) State.reset))).map rxView =
      some (.awaitType, 0, 250, [.drop .badLength]) ∧ countByte (List.replicate 256 0) = 255 := by decide +kernel

/-- The packet is taken at the end of the cycle in which `pkt_ready` is 1; the byte offered in it is not. -/
theorem test_accept_cycle :
    (after (step (given (.cycle { PortIn.quiet with pktReady := true, rxValid := true }) holdingPacket))).map
      (fun s => (s.rx.state, s.rxReady, s.pktValid)) = some (.awaitType, true, false) := by decide +kernel

/-- V65, V66, V71. -/
theorem test_cycles_of_both_sides :
    (after (step (given (.cycle { PortIn.quiet with rst := true, rxValid := true, tick := true, txReady := true })
      sendingClear))).map (fun s => (s.rx.state, s.tx.state, s.tx.actions)) = some (.awaitType, .idle, []) ∧
    (after (step (given (.cycle { PortIn.quiet with txReady := true, txFail := true }) sendingClear))).map txView =
      some (.idle, 0, 4, [.txDone .ioError]) ∧
    (after (step (given (.cycle { PortIn.quiet with txReady := true, rxValid := true, rxData := 0xFF })
      { sending [0x06, 0x00, 0x97, 0x5B] 3 with rx := awaitingLength.rx }))).map
        (fun s => (s.dropReasonOut, s.txStatusOut)) = some (some .badLength, some .ok) := by
  refine ⟨?_, ?_, ?_⟩ <;> decide +kernel

/-! ### Witnesses: for each statement with hypotheses, concrete values that meet all of them -/

/-- The legal instance of R5 and the states used below meet the invariants. -/
theorem witness_Inv :
    State.reset.Inv ∧ awaitingLength.Inv ∧ awaitingBody.Inv ∧ holdingPacket.Inv ∧ terminated.Inv ∧ sendingClear.Inv := by
  refine ⟨?_, ?_, ?_, ?_, ?_, ?_⟩ <;> decide +kernel

theorem witness_DecodeOfEncode :
    ((Instr.writeReq (.send (List.replicate 22 0x41))).wf = true ∧
      (Instr.writeReq (.send (List.replicate 22 0x41))).readIn .terminated = true) ∧
    ((Instr.reportOther 0x03 (.receiveOversize 23)).wf = true ∧
      (Instr.reportOther 0x03 (.receiveOversize 23)).readIn .awaitBody = true) ∧
    ((Instr.rxByteBody 0xFF).wf = true ∧ (Instr.rxByteBody 0xFF).readIn .awaitBody = true) := by decide

theorem witness_EncodeOfDecodedPacket :
    Format.packet ≠ .event ∧
    decode .packet .awaitType (0x40 :: [0x00, 0x21, 0x49, 0x80]) = .ok (.pingRsp (.receive [] 0x4921), [0x80]) := by
  decide

theorem witness_VectorEventsAscending :
    (EventVector.mk 0xFF 0 0 0 []).ev.getLsbD 0 = true ∧ (EventVector.mk 0xAA 0 0 0 []).ev.getLsbD 0 = false := by
  decide

theorem witness_ReportsAreClassTwo : Config.default.reportClass = 0b10 := by decide

/-- A state with `drop_valid` 1 and one with `tx_done` 1. -/
theorem witness_ResetStateValues :
    (after (exec (.rxByteLength 23) awaitingLength)).map (fun t => (t.rx.dropValid, t.ports.dropReason)) =
      some (true, some 1) ∧
    (after (exec .txFail sendingClear)).map (fun t => (t.tx.done, t.ports.txStatus)) = some (true, some 2) := by
  decide +kernel

/-- A word of each format. -/
theorem witness_StepRunsDecodedWord :
    State.reset.cfg.legal = true ∧
    decode .event State.reset.rx.state (eventWord 0x08 0x40 0 0 []) = .ok (.rxByteType 0x40, []) ∧
    (given (.word .event (eventWord 0x08 0x40 0 0 [])) State.reset).inputs =
      .word .event (eventWord 0x08 0x40 0 0 []) :: [] ∧
    decode .request State.reset.rx.state [0x06, 0x00] = .ok (.clearReq (.send []), []) ∧
    decode .packet State.reset.rx.state [0x46, 0x00, 0xF1, 0x1D] = .ok (.clearRsp (.receive [] 0x1DF1), []) := by
  decide +kernel

/-- A cycle with two events; event words with no event, with one of two events enabled, with neither. -/
theorem witness_CyclePerformsItsEventsInOrder :
    sendingClear.cfg.legal = true ∧
    (given (.cycle { PortIn.quiet with txReady := true, tick := true }) sendingClear).inputs =
      .cycle { PortIn.quiet with txReady := true, tick := true } :: [] ∧
    sendingClear.inputs = [] ∧ State.reset.rx.state = .awaitType ∧ awaitingLength.rx.state = .awaitLength ∧
    awaitingBody.rx.state = .awaitBody ∧ (List.replicate 22 (0 : Byte)).length = 22 ∧
    (given (.word .event (eventWord 0x44 0 0 0 [])) sendingClear).inputs =
      .word .event (0x44 :: 0 :: 0 :: 0 :: (List.replicate 22 0 ++ [])) :: [] ∧
    (EventVector.mk 0x00 0 0 0 (List.replicate 22 0)).events = [] ∧
    (EventVector.mk 0x44 0 0 0 (List.replicate 22 0)).events = [.pktAccept, .txFail] ∧
    eventEnabled sendingClear .pktAccept = false ∧ eventEnabled sendingClear .txFail = true ∧
    eventEnabled State.reset .pktAccept = false ∧ eventEnabled State.reset .txFail = false := by
  refine ⟨?_, ?_, ?_, ?_, ?_, ?_, ?_, ?_, ?_, ?_, ?_, ?_, ?_, ?_⟩ <;> decide +kernel

/-- The parameters at the ends of their ranges and just outside them (`TIMER_W` = 8); the open ones at some value. -/
theorem witness_IllegalConfigurationRefused :
    (withTimeout 1 State.reset).cfg.legal = true ∧ (withTimeout 255 State.reset).cfg.legal = true ∧
    (withTimeout 0 State.reset).cfg.legal = false ∧ (withTimeout 256 State.reset).cfg.legal = false ∧
    (withMaxData 0 State.reset).cfg.legal = true ∧ (withMaxData 22 State.reset).cfg.legal = true ∧
    (withMaxData 23 State.reset).cfg.legal = false ∧ ({ Config.default with maxData := 21 } : Config).legal = false ∧
    ({ Config.default with tickPeriod := some 1000000, baud := some 19200 } : Config).legal = true := by decide

theorem witness_StepKeepsParameters : ∃ t, step (given (.cycle PortIn.quiet) State.reset) = .next t :=
  next_of (by decide +kernel)

theorem witness_StepKeepsInvariants :
    (given (.word .event (eventWord 0x08 0x49 0 0 [])) awaitingBody).Inv ∧
    ∃ t, step (given (.word .event (eventWord 0x08 0x49 0 0 [])) awaitingBody) = .next t :=
  ⟨by decide +kernel, next_of (by decide +kernel)⟩

/-- Two different states that differ only in registers that hold no value; a next state, a fault and a refusal. -/
theorem witness_RegistersWithoutValueNeverRead :
    (receiving .awaitType [] 250).Alike State.reset ∧ receiving .awaitType [] 250 ≠ State.reset ∧
    (receiving .awaitType [] 250).Inv ∧ State.reset.Inv ∧ (∃ t, step (receiving .awaitType [] 250) = .next t) ∧
    step (given (.word .event (eventWord 0x04 0 0 0 [])) (receiving .awaitType [] 250)) =
      .fault .pktAcceptNotEnabled ∧
    step (given (.word .event []) (receiving .awaitType [] 250)) = .refused (.badWord .truncated) :=
  ⟨by decide +kernel, by decide +kernel, by decide +kernel, by decide +kernel, next_of (by decide +kernel),
    stop_of (by decide +kernel), rfl⟩

theorem witness_PortCycleAlwaysAnswers :
    (given (.cycle { PortIn.quiet with rxValid := true }) awaitingBody).Inv ∧
    (given (.cycle { PortIn.quiet with rxValid := true }) awaitingBody).inputs =
      .cycle { PortIn.quiet with rxValid := true } :: [] := by decide +kernel

/-- A cycle with three events, and one with `rst`. -/
theorem witness_PortVectorOneEventEachSide :
    (({ PortIn.quiet with tick := true, rxValid := true, rxClosed := true, txReady := true } : PortIn).vector
      sendingClear).events = [.tick, .rxByte, .txByte] ∧
    ({ PortIn.quiet with tick := true, rxValid := true } : PortIn).rst = false ∧
    ({ PortIn.quiet with rst := true, tick := true } : PortIn).rst = true := by decide +kernel

theorem witness_ReceiveEventsEnabledByState :
    (State.reset.Inv ∧ State.reset.rx.state = .awaitType) ∧ (awaitingLength.Inv ∧ awaitingLength.rx.state = .awaitLength) ∧
    (awaitingBody.Inv ∧ awaitingBody.rx.state = .awaitBody) ∧ (holdingPacket.Inv ∧ holdingPacket.rx.state = .complete) ∧
    (terminated.Inv ∧ terminated.rx.state = .terminated) := by
  refine ⟨?_, ?_, ?_, ?_, ?_⟩ <;> decide +kernel

theorem witness_DisabledEventsStopByName :
    State.reset.rx.state ≠ .complete ∧ holdingPacket.rx.state = .complete ∧ awaitingBody.rx.state ≠ .awaitType ∧
    State.reset.rx.state ≠ .awaitLength ∧ State.reset.rx.state ≠ .awaitBody ∧ sendingClear.tx.state = .send ∧
    State.reset.tx.state = .idle ∧ terminated.rx.state = .terminated ∧
    (Instr.clearReq (.send [])).transfer = some (.send []) ∧
    (Instr.clearReq (.sendOversize 23)).transfer = some (.sendOversize 23) ∧
    (Instr.pingRsp (.receive [] 0)).transfer = some (.receive [] 0) ∧
    (Instr.pingRsp (.receiveOversize 23)).transfer = some (.receiveOversize 23) := by decide

theorem witness_CompleteHoldsThePacket :
    holdingPacket.rx.state = .complete ∧ Instr.tick ≠ .reset ∧ Instr.tick ≠ .pktAccept ∧
    (∃ t, exec .tick holdingPacket = .next t) ∧ ∃ t, exec (.clearReq (.send [])) holdingPacket = .next t :=
  ⟨by decide, by decide, by decide, next_of (by decide +kernel), next_of (by decide +kernel)⟩

theorem witness_TerminatedIsFinal :
    terminated.rx.state = .terminated ∧ (∃ t, exec .tick terminated = .next t) ∧
    (∃ t, exec .reset terminated = .next t) ∧ ∃ t, exec (.clearReq (.send [])) terminated = .next t :=
  ⟨by decide, next_of (by decide +kernel), next_of (by decide +kernel), next_of (by decide +kernel)⟩

theorem witness_ReceiveTransitionTable :
    awaitingBody.Inv ∧ isReceiveEvent (.rxByteBody 0x49) = true ∧ (∃ t, exec (.rxByteBody 0x49) awaitingBody = .next t) ∧
    holdingPacket.Inv ∧ ∃ t, exec .pktAccept holdingPacket = .next t :=
  ⟨by decide +kernel, by decide, next_of (by decide +kernel), by decide +kernel, next_of (by decide +kernel)⟩

theorem witness_TypeByteAccepted : State.reset.rx.state = .awaitType := by decide

/-- Both sides of the length boundary. -/
theorem witness_LengthByteAcceptedOrRejected :
    awaitingLength.rx.state = .awaitLength ∧ (22 : Byte).toNat ≤ awaitingLength.cfg.maxData ∧
    awaitingLength.cfg.maxData < (23 : Byte).toNat := by decide

/-- A byte that is not the last, and a last byte that is right and one that is wrong. -/
theorem witness_BodyByteStoredAndJudged :
    (receiving .awaitBody [0x40, 0x00] 9).Inv ∧ (receiving .awaitBody [0x40, 0x00] 9).rx.cnt.toNat + 1 < 0 + 4 ∧
    awaitingBody.Inv ∧ awaitingBody.rx.state = .awaitBody ∧
    awaitingBody.rx.cnt.toNat + 1 = (awaitingBody.rx.buf.byte 1).toNat + 4 ∧
    (stripAndVerify awaitingBody.cfg (awaitingBody.rx.held ++ [0x49])).2 = true ∧
    (stripAndVerify awaitingBody.cfg (awaitingBody.rx.held ++ [0x48])).2 = false := by
  refine ⟨?_, ?_, ?_, ?_, ?_, ?_, ?_⟩ <;> decide +kernel

/-- Both sides of the last tick, and no window. -/
theorem witness_TickCountsOrExpires :
    (receiving .awaitLength [0x40] 2).rx.state = .awaitLength ∧ 1 < (receiving .awaitLength [0x40] 2).rx.timer ∧
    (receiving .awaitLength [0x40] 1).rx.timer ≤ 1 ∧ holdingPacket.rx.state = .complete := by decide

theorem witness_AcceptDeliversThePacket : holdingPacket.Inv ∧ holdingPacket.rx.state = .complete := by decide +kernel

theorem witness_CloseTerminatesSilently :
    State.reset.rx.state = .awaitType ∧ awaitingLength.rx.state = .awaitLength ∧ awaitingBody.rx.state = .awaitBody := by
  decide

/-- `BadLength` raised at 23 and not at 22. -/
theorem witness_BadLengthExactlyWhen :
    isEvent (.rxByteLength 23) = true ∧ isEvent (.rxByteLength 22) = true ∧
    (∃ t, exec (.rxByteLength 23) awaitingLength = .next t) ∧ (∃ t, exec (.rxByteLength 22) awaitingLength = .next t) ∧
    (after (exec (.rxByteLength 23) awaitingLength)).map (fun t => t.rx.actions) = some [.drop .badLength] :=
  ⟨by decide, by decide, next_of (by decide +kernel), next_of (by decide +kernel), by decide +kernel⟩

theorem witness_BadCrcExactlyWhen :
    awaitingBody.Inv ∧ isEvent (.rxByteBody 0x48) = true ∧
    (after (exec (.rxByteBody 0x48) awaitingBody)).map (fun t => t.rx.actions) = some [.drop .badCrc] ∧
    (∃ t, exec (.rxByteBody 0x49) awaitingBody = .next t) :=
  ⟨by decide +kernel, by decide, by decide +kernel, next_of (by decide +kernel)⟩

theorem witness_TimeoutExactlyWhen :
    isEvent .tick = true ∧
    (after (exec .tick (receiving .awaitLength [0x40] 1))).map (fun t => t.rx.actions) = some [.drop .timeout] ∧
    (∃ t, exec .tick (receiving .awaitLength [0x40] 2) = .next t) :=
  ⟨by decide, by decide +kernel, next_of (by decide +kernel)⟩

theorem witness_PayloadTooLargeExactlyWhen :
    isEvent (.txStart 0 23 []) = true ∧
    (after (exec (.txStart 0 23 []) State.reset)).map (fun t => t.tx.actions) = some [.txDone .payloadTooLarge] ∧
    (∃ t, exec (.txStart 0 22 (List.replicate 22 0)) State.reset = .next t) :=
  ⟨by decide, by decide +kernel, next_of (by decide +kernel)⟩

theorem witness_IoErrorExactlyWhen :
    isEvent .txFail = true ∧
    (after (exec .txFail sendingClear)).map (fun t => t.tx.actions) = some [.txDone .ioError] ∧
    (∃ t, exec .txByte sendingClear = .next t) :=
  ⟨by decide, by decide +kernel, next_of (by decide +kernel)⟩

theorem witness_OneOutputPerReceiveEvent :
    isReceiveEvent (.rxByteBody 0x49) = true ∧ awaitingBody.pktValid = false ∧
    (after (exec (.rxByteBody 0x49) awaitingBody)).map State.pktValid = some true ∧
    isReceiveEvent .pktAccept = true ∧ ∃ t, exec .pktAccept holdingPacket = .next t :=
  ⟨by decide, by decide, by decide +kernel, by decide, next_of (by decide +kernel)⟩

/-- Both sides of the payload boundary. -/
theorem witness_StartBuildsThePacket :
    State.reset.cfg.legal = true ∧ (List.replicate 22 (0 : Byte)).length = 22 ∧ State.reset.tx.state = .idle ∧
    (22 : Byte).toNat ≤ State.reset.cfg.maxData ∧ State.reset.cfg.maxData < (23 : Byte).toNat := by decide

/-- A byte in the middle and the last one. -/
theorem witness_ByteLeavesInIndexOrder :
    sendingClear.Inv ∧ sendingClear.tx.state = .send ∧ sendingClear.tx.idx.toNat + 1 < sendingClear.tx.len.toNat ∧
    (sending [0x06, 0x00, 0x97, 0x5B] 3).Inv ∧
    (sending [0x06, 0x00, 0x97, 0x5B] 3).tx.idx.toNat + 1 = (sending [0x06, 0x00, 0x97, 0x5B] 3).tx.len.toNat := by
  refine ⟨?_, ?_, ?_, ?_, ?_⟩ <;> decide +kernel

theorem witness_FailureEndsTheOperation : sendingClear.tx.state = .send := by decide

theorem witness_RequestBytesReachTheStream :
    State.reset.cfg.legal = true ∧ (List.replicate 22 (0x41 : Byte)).length = 22 ∧ State.reset.tx.state = .idle ∧
    (22 : Byte).toNat ≤ State.reset.cfg.maxData := by decide

theorem witness_RequestOfAnyTypeIsSent :
    (Instr.writeReq (.send (List.replicate 22 0x41))).typeByte = some 0x1F ∧
    (Instr.writeReq (.send (List.replicate 22 0x41))).transfer = some (.send (List.replicate 22 0x41)) ∧
    State.reset.cfg.legal = true ∧ State.reset.tx.state = .idle ∧
    (List.replicate 22 (0x41 : Byte)).length ≤ State.reset.cfg.maxData := by decide

/-- One byte above `MAX_DATA`: by its length alone, and with a payload where `MAX_DATA` is 5. -/
theorem witness_OversizeRequestOfAnyTypeRefused :
    (Instr.class11Other 0x3F (.sendOversize 23)).typeByte = some 0xFF ∧
    (Instr.class11Other 0x3F (.sendOversize 23)).transfer = some (.sendOversize 23) ∧
    State.reset.cfg.maxData < (23 : Byte).toNat ∧ State.reset.tx.state = .idle ∧
    (Instr.writeReq (.send (List.replicate 6 0))).typeByte = some 0x1F ∧
    (Instr.writeReq (.send (List.replicate 6 0))).transfer = some (.send (List.replicate 6 0)) ∧
    (List.replicate 6 (0 : Byte)).length = (6 : Byte).toNat ∧
    (withMaxData 5 State.reset).cfg.maxData < (6 : Byte).toNat ∧ (withMaxData 5 State.reset).cfg.legal = true ∧
    (withMaxData 5 State.reset).tx.state = .idle := by
  refine ⟨?_, ?_, ?_, ?_, ?_, ?_, ?_, ?_, ?_, ?_⟩ <;> decide

/-- V26. -/
theorem witness_PacketOfAnyTypeIsOffered :
    (Instr.pingRsp (.receive [] 0x4921)).typeByte = some 0x40 ∧
    (Instr.pingRsp (.receive [] 0x4921)).transfer = some (.receive [] 0x4921) ∧ State.reset.cfg.legal = true ∧
    State.reset.rx.state = .awaitType ∧ ([] : List Byte).length ≤ State.reset.cfg.maxData ∧
    (0x4921 : Half) = crc16 State.reset.cfg [0x40, 0x00] := by decide +kernel

/-- V27. -/
theorem witness_PacketWithWrongCrcDropped :
    (Instr.pingRsp (.receive [] 0x4821)).typeByte = some 0x40 ∧
    (Instr.pingRsp (.receive [] 0x4821)).transfer = some (.receive [] 0x4821) ∧ State.reset.cfg.legal = true ∧
    State.reset.rx.state = .awaitType ∧ ([] : List Byte).length ≤ State.reset.cfg.maxData ∧
    (0x4821 : Half) ≠ crc16 State.reset.cfg [0x40, 0x00] := by decide +kernel

/-- One byte above `MAX_DATA`: by the length byte alone, and with data where `MAX_DATA` is 1. -/
theorem witness_PacketWithIllegalLengthDropped :
    (Instr.pingRsp (.receiveOversize 23)).typeByte = some 0x40 ∧
    (Instr.pingRsp (.receiveOversize 23)).transfer = some (.receiveOversize 23) ∧
    State.reset.cfg.maxData < (23 : Byte).toNat ∧ State.reset.rx.state = .awaitType ∧
    (Instr.pingRsp (.receive [7, 8] 0x1234)).typeByte = some 0x40 ∧
    (Instr.pingRsp (.receive [7, 8] 0x1234)).transfer = some (.receive [7, 8] 0x1234) ∧
    ([7, 8] : List Byte).length = (2 : Byte).toNat ∧
    ([7, 8, 0x34, 0x12] : List Byte) = [7, 8] ++ [crcLo 0x1234, crcHi 0x1234] ∧
    (withMaxData 1 State.reset).cfg.maxData < (2 : Byte).toNat ∧
    (withMaxData 1 State.reset).rx.state = .awaitType := by
  refine ⟨?_, ?_, ?_, ?_, ?_, ?_, ?_, ?_, ?_, ?_⟩ <;> decide

/-- A right CRC, a wrong one and an illegal length that complete; and a packet that stops. -/
theorem witness_PacketWordIsItsByteWords :
    (Instr.pingRsp (.receive [] 0x4921)).format = .packet ∧ State.reset.cfg.legal = true ∧
    (∃ t, exec (.pingRsp (.receive [] 0x4921)) State.reset = .next t) ∧
    (∃ t, exec (.pingRsp (.receive [] 0x4821)) State.reset = .next t) ∧
    (∃ t, exec (.pingRsp (.receiveOversize 23)) State.reset = .next t) ∧
    exec (.pingRsp (.receive [] 0x4921)) holdingPacket = .fault .rxByteNotEnabled ∧
    (Instr.pingRsp (.receive [] 0x4921)).wf = true ∧ (Instr.pingRsp (.receive [] 0x4921)).typeByte = some 0x40 ∧
    (Instr.pingRsp (.receive [] 0x4921)).transfer =
      some (.receive [] (crc16 State.reset.cfg (0x40 :: BitVec.ofNat 8 ([] : List Byte).length :: []))) :=
  ⟨by decide, by decide, next_of (by decide +kernel), next_of (by decide +kernel), next_of (by decide +kernel),
    stop_of (by decide +kernel), by decide, by decide, by decide +kernel⟩

theorem witness_VerifyFailsClosed : ([0x12] : List Byte).length < 2 := by decide

/-- The first and the last bit of a packet. -/
theorem witness_SingleBitErrorsDetected :
    Config.default.crcPolyR = 0x8408 ∧ 0 < 8 * (appendCrc Config.default [0x40, 0x00]).length ∧
    31 < 8 * (appendCrc Config.default [0x40, 0x00]).length := by decide +kernel

theorem witness_ResidueIsConstant :
    Config.default.crcPolyR = 0x8408 ∧ Config.default.crcXorOut = 0xFFFF ∧ 2 ≤ ([0x40, 0x00] : List Byte).length := by
  decide

theorem witness_CrcStepLinearAndBijective : Config.default.crcPolyR = 0x8408 := by decide

/-- Both complete; and the transmit event is not enabled; and the receive event is not. -/
theorem witness_SidesDoNotInteract :
    isReceiveEvent (.rxByteType 0x40) = true ∧ isTransmitEvent .txByte = true ∧
    (∃ a, exec (.rxByteType 0x40) sendingClear = .next a) ∧ (∃ b, exec .txByte sendingClear = .next b) ∧
    exec .txByte State.reset = .fault .txByteNotEnabled ∧
    exec (.rxByteBody 0) sendingClear = .fault .rxByteNotEnabled :=
  ⟨by decide, by decide, next_of (by decide +kernel), next_of (by decide +kernel), stop_of (by decide +kernel),
    stop_of (by decide +kernel)⟩

/-- Bytes left over and none left over; the shortest frame and one byte less. -/
theorem witness_FramerIsParse :
    State.reset.cfg.legal = true ∧ State.reset.rx.state = .awaitType ∧
    leftover State.reset.cfg [0x40, 0x00, 0x21, 0x49] = [] ∧ leftover State.reset.cfg [0x40, 0x00, 0x21] ≠ [] ∧
    ([0x40] : List Byte).length < 2 ∧ Config.default.maxData < (23 : Byte).toNat ∧
    (0 : Byte).toNat ≤ Config.default.maxData ∧ ([0x21] : List Byte).length < (0 : Byte).toNat + 2 ∧
    (0 : Byte).toNat + 2 ≤ ([0x21, 0x49] : List Byte).length := by decide +kernel

/-- 249 ticks in all, one under the timeout. -/
theorem witness_SlowPacketIsDelivered :
    State.reset.cfg.legal = true ∧ State.reset.rx.state = .awaitType ∧
    ([] : List Byte).length ≤ State.reset.cfg.maxData ∧
    ([(1000, 0x40), (100, 0x00), (149, 0x21), (0, 0x49)] : List (Nat × Byte)).map Prod.snd =
      appendCrc State.reset.cfg (0x40 :: BitVec.ofNat 8 ([] : List Byte).length :: []) ∧
    (([(1000, 0x40), (100, 0x00), (149, 0x21), (0, 0x49)] : List (Nat × Byte)).tail.map Prod.fst).sum <
      State.reset.cfg.timeoutTicks := by decide +kernel

/-- Both sides of the window's end, and a byte in each state. -/
theorem witness_WindowNotRestartedByBytes :
    awaitingBody.Inv ∧ awaitingBody.rx.state = .awaitBody ∧ 16 < awaitingBody.rx.timer ∧ awaitingBody.rx.timer ≤ 17 ∧
    (∃ t, exec (.rxByteBody 0x49) awaitingBody = .next t) ∧ ∃ t, exec (.rxByteLength 0) awaitingLength = .next t :=
  ⟨by decide +kernel, by decide, by decide, by decide, next_of (by decide +kernel), next_of (by decide +kernel)⟩

/-- The first and the last bit of the packet, and the bits on either side of the length byte. -/
theorem witness_FlippedBitIsDropped :
    State.reset.cfg.legal = true ∧ State.reset.cfg.crcPolyR = 0x8408 ∧ State.reset.rx.state = .awaitType ∧
    ([] : List Byte).length ≤ State.reset.cfg.maxData ∧
    ∀ k ∈ [0, 7, 16, 31], k < 8 * (([] : List Byte).length + 4) ∧ k / 8 ≠ 1 := by decide

/-- A TICK that counts and one that expires; another instruction that completes, and one that stops. -/
theorem witness_TickIsNothingOrExpire :
    (∃ t, exec .tick awaitingBody = .next t) ∧ (∃ t, exec .tick (receiving .awaitLength [0x40] 1) = .next t) ∧
    Instr.rxByteBody 0x49 ≠ .tick ∧ (∃ t, exec (.rxByteBody 0x49) awaitingBody = .next t) ∧
    exec (.rxByteBody 0x49) State.reset = .fault .rxByteNotEnabled :=
  ⟨next_of (by decide +kernel), next_of (by decide +kernel), by decide, next_of (by decide +kernel),
    stop_of (by decide +kernel)⟩

/-- A cycle with a drop, and one with `rst`. -/
theorem witness_PulsesLastOneCycle :
    (given (.cycle { PortIn.quiet with rxValid := true, rxData := 0x48 }) awaitingBody).Inv ∧
    (∃ t, step (given (.cycle { PortIn.quiet with rxValid := true, rxData := 0x48 }) awaitingBody) = .next t) ∧
    ∃ t, step (given (.cycle { PortIn.quiet with rst := true }) awaitingBody) = .next t :=
  ⟨by decide +kernel, next_of (by decide +kernel), next_of (by decide +kernel)⟩

/-- V63. -/
theorem witness_ExpiryBeforeTheByteOfItsCycle :
    (receiving .awaitBody [0x82, 0x04, 0x01] 1).Inv ∧ (receiving .awaitBody [0x82, 0x04, 0x01] 1).rx.state = .awaitBody ∧
    (receiving .awaitBody [0x82, 0x04, 0x01] 1).rx.timer = 1 ∧
    ({ PortIn.quiet with tick := true, rxValid := true } : PortIn).rst = false ∧
    ({ PortIn.quiet with tick := true, rxValid := true } : PortIn).tick = true ∧
    ({ PortIn.quiet with tick := true, rxValid := true } : PortIn).rxValid = true := by decide +kernel

theorem witness_OfferedValuesAreHeld :
    PortIn.quiet.rst = false ∧ PortIn.quiet.pktReady = false ∧ PortIn.quiet.txReady = false ∧ PortIn.quiet.txFail = false ∧
    holdingPacket.pktValid = true ∧ sendingClear.txValid = true ∧
    (∃ t, step (given (.cycle PortIn.quiet) holdingPacket) = .next t) ∧
    ∃ t, step (given (.cycle PortIn.quiet) sendingClear) = .next t :=
  ⟨by decide, by decide, by decide, by decide, by decide, by decide, next_of (by decide +kernel),
    next_of (by decide +kernel)⟩

theorem witness_QuiescentStaysQuiescent :
    terminated.quiescent = true ∧ State.reset.quiescent = true ∧ holdingPacket.pktValid = true ∧
    PortIn.quiet.rxValid = false ∧ PortIn.quiet.rxClosed = false ∧ PortIn.quiet.txqValid = false ∧
    ∃ t, step (given (.cycle { PortIn.quiet with tick := true }) terminated) = .next t :=
  ⟨by decide, by decide, by decide, by decide, by decide, by decide, next_of (by decide +kernel)⟩

/-- The ends of each range of key values. -/
theorem witness_ReportReadings :
    (1 ≤ (6 : Byte).toNat ∧ (6 : Byte).toNat ≤ 6) ∧ (7 ≤ (12 : Byte).toNat ∧ (12 : Byte).toNat ≤ 12) ∧
    ((0 : Byte).toNat = 0) ∧ 12 < (13 : Byte).toNat ∧ ¬((5 : Byte) = 0 ∧ (0 : Byte) = 0 ∧ (10 : Byte) = 0) ∧
    (1 : Byte) ≠ 0 := by decide

end Sys2Proof.Tests
end

section
/-! SUPPORT. Which results are refusals: no instruction gives one, so a step refuses only for its configuration or for a word
that does not decode. -/

namespace Sys2Proof.Machine

/-- A sequence refuses only where one of its parts does. -/
theorem andThen_ne_refused {o : Result} {f : State → Result} (ho : ∀ x, o ≠ .refused x)
    (hf : ∀ s x, f s ≠ .refused x) (x : Refusal) : andThen o f ≠ .refused x := by
  cases o with
  | next s => exact hf s x
  | fault r => simp
  | refused y => exact absurd rfl (ho y)

theorem receiveBytes_ne_refused (bs : List Byte) (s : State) (x : Refusal) : receiveBytes bs s ≠ .refused x := by
  induction bs generalizing s x with
  | nil => simp
  | cons b bs ih => exact andThen_ne_refused (onRx_ne_refused _ _) ih x

theorem transfer_ne_refused (t : Byte) (y : Transfer) (s : State) (x : Refusal) : transfer t y s ≠ .refused x := by
  cases y with
  | send payload => exact onTx_ne_refused _ _ x
  | sendOversize plen => exact onTx_ne_refused _ _ x
  | receive data crc => exact receiveBytes_ne_refused _ s x
  | receiveOversize len => exact receiveBytes_ne_refused _ s x

/-- Every row of the opcode table has a meaning. -/
theorem exec_ne_refused (i : Instr) (s : State) (x : Refusal) : exec i s ≠ .refused x := by
  cases i with
  | reset => simp
  | tick | pktAccept | rxByteType | rxByteLength | rxByteBody | rxClose => exact onRx_ne_refused _ s x
  | txStart | txFail | txByte => exact onTx_ne_refused _ s x
  | _ => exact transfer_ne_refused _ _ s x

theorem perform_ne_refused (v : EventVector) (e : Event) (s : State) (x : Refusal) : perform v e s ≠ .refused x := by
  unfold perform
  split
  · exact exec_ne_refused _ s x
  · simp

theorem performAll_ne_refused (v : EventVector) (es : List Event) (s : State) (x : Refusal) :
    performAll v es s ≠ .refused x := by
  induction es generalizing s x with
  | nil => simp [performAll]
  | cons e es ih =>
    unfold performAll
    split
    · exact andThen_ne_refused (perform_ne_refused v e s) ih x
    · exact ih s x

theorem performVector_ne_refused (v : EventVector) (s : State) (x : Refusal) : performVector v s ≠ .refused x := by
  unfold performVector
  split
  · simp
  · split
    · exact performAll_ne_refused v _ s x
    · simp

/-- A word is refused only because it does not decode. -/
theorem runWord_refused {f : Format} {bs : List Byte} {s : State} {x : Refusal} (h : runWord f bs s = .refused x) :
    ∃ e, x = .badWord e := by
  cases f with
  | event =>
    simp only [runWord] at h
    split at h
    · exact absurd h (performVector_ne_refused _ _ _)
    · exact ⟨_, (Host.Outcome.refused.inj h).symm⟩
  | request | packet =>
    simp only [runWord] at h
    split at h
    · exact absurd h (exec_ne_refused _ _ _)
    · exact ⟨_, (Host.Outcome.refused.inj h).symm⟩

theorem runInput_refused {i : Input} {s : State} {x : Refusal} (h : runInput i s = .refused x) :
    ∃ e, x = .badWord e := by
  cases i with
  | word f bs => exact runWord_refused h
  | cycle p => exact absurd h (performVector_ne_refused _ s x)

theorem runCycle_refused {s : State} {x : Refusal} (h : runCycle s = .refused x) : ∃ e, x = .badWord e := by
  unfold runCycle at h
  split at h
  · exact runInput_refused h
  · exact runInput_refused h

theorem step_of_legal {s : State} (h : s.cfg.legal = true) : step s = runCycle s := by
  simp [step, h]

theorem step_of_not_legal {s : State} (h : s.cfg.legal = false) : step s = .refused .illegalConfig := by
  simp [step, h]

/-- Settles O8: a legally configured block refuses only words that do not decode. -/
theorem illegalConfigurationRefused : Obligations.IllegalConfigurationRefused := by
  unfold Obligations.IllegalConfigurationRefused
  intro s
  refine ⟨fun h => ?_, step_of_not_legal⟩
  by_contra hlegal
  rw [step_of_legal (by simpa using hlegal)] at h
  obtain ⟨e, he⟩ := runCycle_refused h
  cases he

end Sys2Proof.Machine
end

section
/-! SUPPORT. Where each operation stops, and by what name. -/

namespace Sys2Proof.Machine

/-! ### The receive side -/

theorem rxAccept_of_not_complete {c : Config} {r : RxSide} (h : r.state ≠ .complete) :
    rxAccept c r = .error .pktAcceptNotEnabled := by
  simp [rxAccept, h]

theorem rxClose_of_not_ready {c : Config} {r : RxSide} (h : r.state = .complete ∨ r.state = .terminated) :
    rxClose c r = .error .rxCloseNotEnabled := by
  rcases h with h | h <;> simp [rxClose, h]

theorem rxByteType_of_not_awaitType {b : Byte} {c : Config} {r : RxSide} (h : r.state ≠ .awaitType) :
    rxByteType b c r = .error .rxByteNotEnabled := by
  simp [rxByteType, h]

theorem rxByteLength_of_not_awaitLength {b : Byte} {c : Config} {r : RxSide} (h : r.state ≠ .awaitLength) :
    rxByteLength b c r = .error .rxByteNotEnabled := by
  simp [rxByteLength, h]

theorem rxByteBody_of_not_awaitBody {b : Byte} {c : Config} {r : RxSide} (h : r.state ≠ .awaitBody) :
    rxByteBody b c r = .error .rxByteNotEnabled := by
  simp [rxByteBody, h]

theorem rxByte_of_not_ready {b : Byte} {c : Config} {r : RxSide} (h : r.state = .complete ∨ r.state = .terminated) :
    rxByte b c r = .error .rxByteNotEnabled := by
  rcases h with h | h <;> simp [rxByte, h]

/-- A sequence of bytes stops at its first byte where no byte can be taken. -/
theorem receiveBytes_of_not_ready {s : State} (b : Byte) (bs : List Byte)
    (h : s.rx.state = .complete ∨ s.rx.state = .terminated) :
    receiveBytes (b :: bs) s = .fault .rxByteNotEnabled := by
  have hfirst : onRx (rxByte b) s.beginCycle = .fault .rxByteNotEnabled := onRx_eq_fault.2 (rxByte_of_not_ready h)
  rw [receiveBytes_cons, hfirst, andThen_fault]

/-! ### The transmit side -/

theorem txStart_of_send {code plen : Byte} {payload : List Byte} {c : Config} {t : TxSide} (h : t.state = .send) :
    txStart code plen payload c t = .error .txStartNotEnabled := by
  simp [txStart, h]

theorem txFail_of_idle {c : Config} {t : TxSide} (h : t.state = .idle) : txFail c t = .error .txFailNotEnabled := by
  simp [txFail, h]

theorem txByte_of_idle {c : Config} {t : TxSide} (h : t.state = .idle) : txByte c t = .error .txByteNotEnabled := by
  simp [txByte, h]

/-! ### The TYPE rows -/

theorem transfer_request_of_send {t : Byte} {x : Transfer} {s : State} (hx : x.format = .request)
    (h : s.tx.state = .send) : transfer t x s = .fault .txStartNotEnabled := by
  cases x with
  | send | sendOversize => exact onTx_eq_fault.2 (txStart_of_send h)
  | receive | receiveOversize => cases hx

theorem transfer_packet_of_not_ready {t : Byte} {x : Transfer} {s : State} (hx : x.format = .packet)
    (h : s.rx.state = .complete ∨ s.rx.state = .terminated) : transfer t x s = .fault .rxByteNotEnabled := by
  cases x with
  | send | sendOversize => cases hx
  | receive | receiveOversize => exact receiveBytes_of_not_ready t _ h

/-- A TYPE row is the transfer of some type byte, its own. -/
theorem exec_eq_transfer {i : Instr} {x : Transfer} (hi : i.transfer = some x) :
    ∃ t, i.typeByte = some t ∧ ∀ s, exec i s = transfer t x s := by
  obtain ⟨t, ht⟩ := (typeByte_iff_transfer i).2 ⟨x, hi⟩
  exact ⟨t, ht, exec_transfer ht hi⟩

/-- A request stops where TX_START does. -/
theorem exec_request_of_send {i : Instr} {x : Transfer} {s : State} (hi : i.transfer = some x)
    (hx : x.format = .request) (h : s.tx.state = .send) : exec i s = .fault .txStartNotEnabled := by
  obtain ⟨t, -, hexec⟩ := exec_eq_transfer hi
  rw [hexec, transfer_request_of_send hx h]

/-- A packet from the device stops where RX_BYTE does. -/
theorem exec_packet_of_not_ready {i : Instr} {x : Transfer} {s : State} (hi : i.transfer = some x)
    (hx : x.format = .packet) (h : s.rx.state = .complete ∨ s.rx.state = .terminated) :
    exec i s = .fault .rxByteNotEnabled := by
  obtain ⟨t, -, hexec⟩ := exec_eq_transfer hi
  rw [hexec, transfer_packet_of_not_ready hx h]

/-- Settles O17: each EVENT row stops as its operation on its own side does, each TYPE row as the event it begins with. -/
theorem disabledEventsStopByName : Obligations.DisabledEventsStopByName := by
  unfold Obligations.DisabledEventsStopByName
  refine ⟨fun s b code plen payload => ⟨?pktAccept, ?rxClose, ?type, ?length, ?body, ?txStart, ?txFail, ?txByte⟩,
    fun i s payload data plen len crc => ⟨?request, ?packet⟩⟩
  case pktAccept => exact fun h => onRx_eq_fault.2 (rxAccept_of_not_complete h)
  case rxClose => exact fun h => onRx_eq_fault.2 (rxClose_of_not_ready h)
  case type => exact fun h => onRx_eq_fault.2 (rxByteType_of_not_awaitType h)
  case length => exact fun h => onRx_eq_fault.2 (rxByteLength_of_not_awaitLength h)
  case body => exact fun h => onRx_eq_fault.2 (rxByteBody_of_not_awaitBody h)
  case txStart => exact fun h => onTx_eq_fault.2 (txStart_of_send h)
  case txFail => exact fun h => onTx_eq_fault.2 (txFail_of_idle h)
  case txByte => exact fun h => onTx_eq_fault.2 (txByte_of_idle h)
  case request =>
    rintro (hi | hi) h
    · exact exec_request_of_send hi rfl h
    · exact exec_request_of_send hi rfl h
  case packet =>
    rintro (hi | hi) h
    · exact exec_packet_of_not_ready hi rfl h
    · exact exec_packet_of_not_ready hi rfl h

end Sys2Proof.Machine
end

section
/-! SUPPORT. The reset state meets the invariants of R29, and every operation of either side keeps them. -/

namespace Sys2Proof.Machine

/-! ### Buffers -/

/-- Buffers that agree below `n` have the same slices there. -/
theorem Buffer.slice_of_slice {buf buf' : Buffer} {n j : Nat} (h : buf'.slice 0 n = buf.slice 0 n) (hj : j ≤ n)
    (i : Nat) : buf'.slice i j = buf.slice i j := by
  have hslice (u : Buffer) : u.slice i j = ((u.slice 0 n).take j).drop i := by
    simp [Buffer.slice, List.take_take, hj]
  rw [hslice, hslice, h]

/-- A block write from 0, read back up to any index within it. -/
theorem Buffer.slice_write_take (buf : Buffer) {s : List Byte} {n : Nat} (hs : s.length ≤ 26) (hn : n ≤ s.length) :
    (buf.write 0 s).slice 0 n = s.take n := by
  conv_rhs => rw [← Buffer.slice_write buf s hs]
  simp [Buffer.slice, List.take_take, hn]

/-! ### The receive side -/

/-- The common end of drop, delivery, close and RESET: with nothing held and no window running, only U11
is left to ask. -/
theorem RxSide.inv_of_empty {c : Config} {r : RxSide} (hs : r.state = .awaitType ∨ r.state = .terminated)
    (hc : r.cnt = 0) (hr : r.ReasonOk) : r.Inv c := by
  rcases hs with hs | hs <;>
    exact ⟨by simp [RxSide.CountOk, hs, hc], by simp [RxSide.LengthOk, hs], by simp [RxSide.Verified, hs],
      by simp [RxSide.WindowOk, hs], hr⟩

theorem RxSide.inv_drop {c : Config} {d : DropReason} (r : RxSide) (hd : d ≠ .none) : (r.drop d).Inv c :=
  RxSide.inv_of_empty (.inl rfl) rfl fun _ => hd

theorem RxSide.inv_toReset (c : Config) (r : RxSide) : r.toReset.Inv c :=
  RxSide.inv_of_empty (.inl rfl) rfl nofun

theorem RxSide.Inv.clearPulse {c : Config} {r : RxSide} (h : r.Inv c) : r.clearPulse.Inv c := by
  obtain ⟨hcnt, hlen, hver, hwin, -⟩ := h
  exact ⟨hcnt, hlen, hver, hwin, nofun⟩

/-- While a body is awaited the next byte has a place in `rx_buf`. -/
theorem RxSide.Inv.cnt_lt_of_awaitBody {c : Config} {r : RxSide} (h : r.Inv c) (hc : c.legal = true)
    (hs : r.state = .awaitBody) : 2 ≤ r.cnt.toNat ∧ r.cnt.toNat < 26 := by
  obtain ⟨⟨-, -, hbody, -, -⟩, hlen, -⟩ := h
  obtain ⟨hmax, -⟩ := (Config.legal_iff c).1 hc
  have := hbody hs
  have := hlen (.inl hs)
  omega

theorem RxSide.Inv.rxByteType {b : Byte} {c : Config} {r r' : RxSide} (h : r.Inv c) (hc : c.legal = true)
    (hop : rxByteType b c r = .ok r') : r'.Inv c := by
  obtain ⟨-, rfl⟩ := rxByteType_eq_ok.1 hop
  obtain ⟨-, -, -, -, hreason⟩ := h
  obtain ⟨-, -, -, hticks, -⟩ := (Config.legal_iff c).1 hc
  exact ⟨by simp [RxSide.CountOk], nofun, nofun, fun _ => ⟨hticks, le_rfl⟩, hreason⟩

theorem RxSide.Inv.rxByteLength {b : Byte} {c : Config} {r r' : RxSide} (h : r.Inv c)
    (hop : rxByteLength b c r = .ok r') : r'.Inv c := by
  obtain ⟨hs, ⟨-, rfl⟩ | ⟨hb, rfl⟩⟩ := rxByteLength_eq_ok.1 hop
  · exact RxSide.inv_drop r (by decide)
  · obtain ⟨-, -, -, hwin, hreason⟩ := h
    have hbyte : (r.buf.put 1 b).byte 1 = b := Buffer.byte_put_same _ _ (by decide)
    exact ⟨by simp [RxSide.CountOk], fun _ => by simpa only [hbyte] using hb, nofun, fun _ => hwin (.inl hs), hreason⟩

/-- A body byte is stored past the length byte; then the buffer is judged. -/
theorem RxSide.Inv.rxByteBody {b : Byte} {c : Config} {r r' : RxSide} (h : r.Inv c)
    (hop : rxByteBody b c r = .ok r') : r'.Inv c := by
  obtain ⟨hs, hlt, rfl⟩ := rxByteBody_eq_ok.1 hop
  obtain ⟨⟨-, -, hbody, -, -⟩, hlen, -, hwin, hreason⟩ := h
  obtain ⟨hlow, hhigh⟩ := hbody hs
  have hbyte : (r.store b).buf.byte 1 = r.buf.byte 1 := Buffer.byte_put_other _ _ (by omega)
  have hcnt := r.store_cnt_toNat b hlt
  have hmax := hlen (.inl hs)
  rcases (r.store b).judge_cases c with ⟨hmore, hj⟩ | ⟨hlast, hok, hj⟩ | ⟨-, -, hj⟩ <;> rw [hj]
  · rw [hbyte] at hmore
    refine ⟨?_, fun _ => hbyte ▸ hmax, ?_, fun _ => hwin (.inr hs), hreason⟩
    · simp only [RxSide.CountOk, RxSide.store_state, hs, hcnt, hbyte]
      simp
      omega
    · simp [hs]
  · exact ⟨by simpa only [RxSide.CountOk, reduceCtorEq, false_implies, true_and, forall_const, and_true] using hlast,
      fun _ => hbyte ▸ hmax, fun _ => hok, nofun, hreason⟩
  · exact RxSide.inv_drop _ (by decide)

theorem RxSide.Inv.rxByte {b : Byte} {c : Config} {r r' : RxSide} (h : r.Inv c) (hc : c.legal = true)
    (hop : rxByte b c r = .ok r') : r'.Inv c := by
  rcases rxByte_eq_ok.1 hop with hop | hop | hop
  · exact h.rxByteType hc hop
  · exact h.rxByteLength hop
  · exact h.rxByteBody hop

theorem RxSide.Inv.rxTick {c : Config} {r r' : RxSide} (h : r.Inv c) (hop : rxTick c r = .ok r') : r'.Inv c := by
  rcases rxTick_eq_ok.1 hop with ⟨-, -, rfl⟩ | ⟨-, ht, rfl⟩ | ⟨-, rfl⟩
  · exact RxSide.inv_drop r (by decide)
  · obtain ⟨hcnt, hlen, hver, hwin, hreason⟩ := h
    refine ⟨hcnt, hlen, hver, fun hs => ?_, hreason⟩
    have := hwin hs
    simp only
    omega
  · exact h

theorem RxSide.Inv.rxAccept {c : Config} {r r' : RxSide} (h : r.Inv c) (hop : rxAccept c r = .ok r') : r'.Inv c := by
  obtain ⟨-, rfl⟩ := rxAccept_eq_ok.1 hop
  obtain ⟨-, -, -, -, hreason⟩ := h
  exact RxSide.inv_of_empty (.inl rfl) rfl hreason

theorem RxSide.Inv.rxClose {c : Config} {r r' : RxSide} (h : r.Inv c) (hop : rxClose c r = .ok r') : r'.Inv c := by
  obtain ⟨-, rfl⟩ := rxClose_eq_ok.1 hop
  obtain ⟨-, -, -, -, hreason⟩ := h
  exact RxSide.inv_of_empty (.inr rfl) rfl hreason

/-! ### The transmit side -/

theorem TxSide.inv_of_idle {c : Config} {t : TxSide} (hs : t.state = .idle) (hi : t.idx = 0) : t.Inv c :=
  ⟨by simp [TxSide.FrameOk, hs], fun _ => by simp [hi]⟩

/-- The bytes of a packet to be sent: all those its length byte counts, if the payload operand has them. -/
theorem appendCrc_requestBody_length (c : Config) {code plen : Byte} {payload : List Byte}
    (h : plen.toNat ≤ payload.length) : (appendCrc c (requestBody code plen payload)).length = plen.toNat + 4 := by
  simp [requestBody, h]

/-- The register `tx_buf[1]` of a packet to be sent is its length byte. -/
theorem byte_one_write_requestBody (buf : Buffer) (c : Config) {code plen : Byte} {payload : List Byte}
    (h : (appendCrc c (requestBody code plen payload)).length ≤ 26) :
    (buf.write 0 (appendCrc c (requestBody code plen payload))).byte 1 = plen := by
  rw [Buffer.byte_write _ _ _ _ (by omega), if_pos (by simp [requestBody])]
  simp [appendCrc, requestBody]

/-- TX_START builds a packet as R29 (e) asks, if its payload operand has the bytes that `plen` counts. -/
theorem TxSide.Inv.txStart {code plen : Byte} {payload : List Byte} {c : Config} {t t' : TxSide} (h : t.Inv c)
    (hc : c.legal = true) (hfit : plen.toNat ≤ 22 → plen.toNat ≤ payload.length)
    (hop : txStart code plen payload c t = .ok t') : t'.Inv c := by
  obtain ⟨hs, ⟨-, rfl⟩ | ⟨hp, rfl⟩⟩ := txStart_eq_ok.1 hop
  · exact h
  · obtain ⟨hmax, -⟩ := (Config.legal_iff c).1 hc
    have hp : plen.toNat ≤ 22 := by omega
    have hpkt := appendCrc_requestBody_length c (code := code) (hfit hp)
    have hbody : (requestBody code plen payload).length = plen.toNat + 2 := by simpa using hpkt
    refine ⟨fun _ => ?_, nofun⟩
    simp only [txLen_toNat plen hp]
    refine ⟨by omega, by omega, ?length, by simp, ?crc⟩
    case length => rw [byte_one_write_requestBody _ _ (by omega)]
    case crc =>
      rw [Buffer.slice_write_take _ (by omega) (by omega), Buffer.slice_write_take _ (by omega) (by omega),
        List.take_of_length_le (by omega)]
      simp [appendCrc, ← hbody]

theorem TxSide.Inv.txByte {c : Config} {t t' : TxSide} (h : t.Inv c) (hop : txByte c t = .ok t') : t'.Inv c := by
  obtain ⟨hs, hlt, ⟨-, rfl⟩ | ⟨hmore, rfl⟩⟩ := txByte_eq_ok.1 hop
  · exact TxSide.inv_of_idle rfl rfl
  · obtain ⟨hframe, -⟩ := h
    obtain ⟨hlow, hhigh, hlen, hidx, hcrc⟩ := hframe hs
    have hne : t.idx.toNat + 1 ≠ t.len.toNat := by
      rwa [← count_succ_toNat _ hlt, ne_eq, BitVec.toNat_inj]
    refine ⟨fun _ => ⟨hlow, hhigh, hlen, ?_, hcrc⟩, by simp [hs]⟩
    rw [TxSide.emit_idx, TxSide.emit_len, count_succ_toNat _ hlt]
    omega

theorem TxSide.Inv.txFail {c : Config} {t t' : TxSide} (hop : txFail c t = .ok t') : t'.Inv c := by
  obtain ⟨-, rfl⟩ := txFail_eq_ok.1 hop
  exact TxSide.inv_of_idle rfl rfl

/-! ### The reset state -/

/-- Settles O10: at reset nothing is held and nothing is sent. -/
theorem resetStateMeetsInvariants : Obligations.ResetStateMeetsInvariants := by
  unfold Obligations.ResetStateMeetsInvariants
  exact ⟨by decide, RxSide.inv_of_empty (.inl rfl) rfl nofun, TxSide.inv_of_idle rfl rfl⟩

end Sys2Proof.Machine
end

section
/-! SUPPORT. No operation reads a register that holds no value (R29 (g)): sides that are `Alike` answer alike. -/

namespace Sys2Proof.Machine

/-- The same fault, or results that are alike. -/
inductive SameAnswer {σ : Type} (Alike : σ → σ → Prop) : Except Fault σ → Except Fault σ → Prop
  | ok {x x' : σ} (h : Alike x x') : SameAnswer Alike (.ok x) (.ok x')
  | error (e : Fault) : SameAnswer Alike (.error e) (.error e)

/-! ### The receive side -/

theorem RxSide.held_of_cnt {r : RxSide} (h : r.cnt = 0) : r.held = [] := by
  simp [RxSide.held, Buffer.slice, h]

/-- The common end of drop, delivery, close and RESET: with nothing held and no window running, `rx_buf` and `rx_timer`
hold no value at all. -/
theorem RxSide.alike_of_empty {r r' : RxSide} (hs : r'.state = r.state) (hw : r.windowRuns = false) (hc : r.cnt = 0)
    (hc' : r'.cnt = 0) (hv : r'.dropValid = r.dropValid) (hr : r'.dropReason = r.dropReason)
    (ha : r'.actions = r.actions) : r.Alike r' :=
  ⟨hs, by rw [hc, hc'], by rw [RxSide.held_of_cnt hc, RxSide.held_of_cnt hc'], by simp [hw], hv, hr, ha⟩

/-- Alike buffers agree up to the common `rx_cnt`. -/
theorem RxSide.Alike.slice {r r' : RxSide} (h : r.Alike r') :
    r'.buf.slice 0 r.cnt.toNat = r.buf.slice 0 r.cnt.toNat := by
  obtain ⟨-, hcnt, hheld, -⟩ := h
  rwa [RxSide.held, RxSide.held, hcnt] at hheld

/-- Every register below `rx_cnt` is read alike. -/
theorem RxSide.Alike.byte {r r' : RxSide} (h : r.Alike r') {k : Nat} (hk : k < r.cnt.toNat) :
    r'.buf.byte k = r.buf.byte k :=
  Buffer.byte_of_slice h.slice hk

theorem RxSide.Alike.windowRuns {r r' : RxSide} (h : r.Alike r') : r'.windowRuns = r.windowRuns := by
  simp only [RxSide.windowRuns, h.1]

/-- The packet held in `COMPLETE` lies below `rx_cnt`, so it is shown and delivered alike. -/
theorem RxSide.Alike.packet {c : Config} {r r' : RxSide} (h : r.Alike r') (hi : r.Inv c) (hs : r.state = .complete) :
    r'.packet c = r.packet c := by
  obtain ⟨⟨-, -, -, hcomplete, -⟩, -⟩ := hi
  have hcnt := hcomplete hs
  have htype := h.byte (k := 0) (by omega)
  have hlen := h.byte (k := 1) (by omega)
  have hdata := Buffer.slice_of_slice h.slice (show 2 + (r.buf.byte 1).toNat ≤ r.cnt.toNat by omega) 2
  simp only [RxSide.packet, htype, hlen, hdata]

theorem RxSide.Alike.clearPulse {r r' : RxSide} (h : r.Alike r') : r.clearPulse.Alike r'.clearPulse := by
  obtain ⟨hs, hcnt, hheld, htimer, -, hreason, hact⟩ := h
  exact ⟨hs, hcnt, hheld, htimer, rfl, hreason, hact⟩

theorem RxSide.Alike.drop {r r' : RxSide} (h : r.Alike r') (d : DropReason) : (r.drop d).Alike (r'.drop d) := by
  obtain ⟨-, -, -, -, -, -, hact⟩ := h
  exact RxSide.alike_of_empty rfl rfl rfl rfl rfl rfl (by simp [hact])

theorem RxSide.Alike.toReset {r r' : RxSide} (h : r.Alike r') : r.toReset.Alike r'.toReset := by
  obtain ⟨-, -, -, -, -, -, hact⟩ := h
  exact RxSide.alike_of_empty rfl rfl rfl rfl rfl rfl hact

theorem RxSide.Alike.store {r r' : RxSide} (h : r.Alike r') (b : Byte) (hlt : r.cnt.toNat < 26) :
    (r.store b).Alike (r'.store b) := by
  obtain ⟨hs, hcnt, hheld, htimer, hvalid, hreason, hact⟩ := h
  refine ⟨hs, by simp [hcnt], ?_, htimer, hvalid, hreason, hact⟩
  rw [RxSide.held_store _ _ hlt, RxSide.held_store _ _ (hcnt ▸ hlt), hheld]

/-- The verdict on a buffer rests on its held bytes. -/
theorem RxSide.Alike.judge {c : Config} {r r' : RxSide} (h : r.Alike r') (hcnt : 2 ≤ r.cnt.toNat) :
    (r.judge c).Alike (r'.judge c) := by
  have hlen := h.byte (k := 1) (by omega)
  have hdrop := h.drop .badCrc
  have hslice := h.slice
  obtain ⟨-, hcnt', hheld, -, hvalid, hreason, hact⟩ := id h
  simp only [RxSide.judge, hlen, hcnt', hheld]
  split
  · split
    · exact ⟨rfl, rfl, hslice, nofun, hvalid, hreason, hact⟩
    · exact hdrop
  · exact h

theorem RxSide.Alike.rxByteType {r r' : RxSide} (h : r.Alike r') (b : Byte) (c : Config) :
    SameAnswer RxSide.Alike (rxByteType b c r) (rxByteType b c r') := by
  obtain ⟨hs, -, -, -, hvalid, hreason, hact⟩ := h
  unfold Machine.rxByteType
  rw [hs]
  split
  · have hheld (u : Buffer) : (u.put 0 b).slice 0 1 = [b] := Buffer.slice_put u (n := 0) b (by decide)
    exact .ok ⟨rfl, rfl, (hheld _).trans (hheld _).symm, fun _ => rfl, hvalid, hreason, hact⟩
  · exact .error _

theorem RxSide.Alike.rxByteLength {c : Config} {r r' : RxSide} (h : r.Alike r') (hi : r.Inv c) (b : Byte) :
    SameAnswer RxSide.Alike (rxByteLength b c r) (rxByteLength b c r') := by
  have hdrop := h.drop .badLength
  have hslice := h.slice
  obtain ⟨hs, -, -, htimer, hvalid, hreason, hact⟩ := h
  unfold Machine.rxByteLength
  rw [hs]
  split
  next hstate =>
    split
    · exact .ok hdrop
    · obtain ⟨⟨-, hone, -⟩, -⟩ := hi
      rw [hone hstate] at hslice
      have hheld (u : Buffer) : (u.put 1 b).slice 0 2 = u.slice 0 1 ++ [b] := Buffer.slice_put u b (by decide)
      have hheld : (r'.buf.put 1 b).slice 0 2 = (r.buf.put 1 b).slice 0 2 := by rw [hheld, hheld, hslice]
      exact .ok ⟨rfl, rfl, hheld, fun _ => htimer (by simp [RxSide.windowRuns, hstate]), hvalid, hreason, hact⟩
  · exact .error _

theorem RxSide.Alike.rxByteBody {c : Config} {r r' : RxSide} (h : r.Alike r') (hi : r.Inv c) (hc : c.legal = true)
    (b : Byte) : SameAnswer RxSide.Alike (rxByteBody b c r) (rxByteBody b c r') := by
  obtain ⟨hs, hcnt, -⟩ := id h
  unfold Machine.rxByteBody
  rw [hs, hcnt]
  split
  next hstate =>
    obtain ⟨hlow, hlt⟩ := hi.cnt_lt_of_awaitBody hc hstate
    split
    · exact .ok ((h.store b hlt).judge (by rw [RxSide.store_cnt_toNat b r hlt]; omega))
    · exact .error _
  · exact .error _

theorem RxSide.Alike.rxByte {c : Config} {r r' : RxSide} (h : r.Alike r') (hi : r.Inv c) (hc : c.legal = true)
    (b : Byte) : SameAnswer RxSide.Alike (rxByte b c r) (rxByte b c r') := by
  have hs := h.1
  unfold Machine.rxByte
  rw [hs]
  split
  · exact h.rxByteType b c
  · exact h.rxByteLength hi b
  · exact h.rxByteBody hi hc b
  · exact .error _
  · exact .error _

/-- TICK reads `rx_timer` only while a window runs. -/
theorem RxSide.Alike.rxTick {r r' : RxSide} (h : r.Alike r') (c : Config) :
    SameAnswer RxSide.Alike (rxTick c r) (rxTick c r') := by
  unfold Machine.rxTick
  rw [h.windowRuns]
  split
  next hw =>
    have hdrop := h.drop .timeout
    obtain ⟨hs, hcnt, hheld, htimer, hvalid, hreason, hact⟩ := h
    rw [htimer hw]
    split
    · exact .ok hdrop
    · exact .ok ⟨hs, hcnt, hheld, fun _ => rfl, hvalid, hreason, hact⟩
  · exact .ok h

theorem RxSide.Alike.rxAccept {c : Config} {r r' : RxSide} (h : r.Alike r') (hi : r.Inv c) :
    SameAnswer RxSide.Alike (rxAccept c r) (rxAccept c r') := by
  have hpacket := h.packet hi
  obtain ⟨hs, -, -, -, hvalid, hreason, hact⟩ := h
  unfold Machine.rxAccept
  rw [hs]
  split
  next hstate =>
    exact .ok (RxSide.alike_of_empty rfl rfl rfl rfl hvalid hreason (by simp [hact, hpacket hstate]))
  · exact .error _

theorem RxSide.Alike.rxClose {r r' : RxSide} (h : r.Alike r') (c : Config) :
    SameAnswer RxSide.Alike (rxClose c r) (rxClose c r') := by
  obtain ⟨hs, -, -, -, hvalid, hreason, hact⟩ := h
  unfold Machine.rxClose
  rw [hs]
  split
  · exact .ok (RxSide.alike_of_empty rfl rfl rfl rfl hvalid hreason hact)
  · exact .error _

/-! ### The transmit side -/

/-- While nothing is sent, `tx_buf` and `tx_len` hold no value at all. -/
theorem TxSide.alike_of_idle {t t' : TxSide} (hs : t.state = .idle) (hs' : t'.state = .idle) (hi : t'.idx = t.idx)
    (hd : t'.done = t.done) (hx : t'.status = t.status) (ha : t'.actions = t.actions) : t.Alike t' :=
  ⟨hs'.trans hs.symm, hi, by simp [hs], hd, hx, ha⟩

/-- The byte at `tx_idx` is read alike: it lies below `tx_len`. -/
theorem TxSide.Alike.byte {c : Config} {t t' : TxSide} (h : t.Alike t') (hi : t.Inv c) (hs : t.state = .send) :
    t'.buf.byte t'.idx.toNat = t.buf.byte t.idx.toNat := by
  obtain ⟨-, hidx, hbuf, -⟩ := h
  obtain ⟨hframe, -⟩ := hi
  obtain ⟨-, -, -, hlt, -⟩ := hframe hs
  rw [hidx, Buffer.byte_of_slice (hbuf hs).2 hlt]

theorem TxSide.Alike.clearPulse {t t' : TxSide} (h : t.Alike t') : t.clearPulse.Alike t'.clearPulse := by
  obtain ⟨hs, hidx, hbuf, -, hstatus, hact⟩ := h
  exact ⟨hs, hidx, hbuf, rfl, hstatus, hact⟩

theorem TxSide.Alike.toReset {t t' : TxSide} (h : t.Alike t') : t.toReset.Alike t'.toReset := by
  obtain ⟨-, -, -, -, -, hact⟩ := h
  exact TxSide.alike_of_idle rfl rfl rfl rfl rfl hact

theorem TxSide.Alike.finish {t t' : TxSide} (h : t.Alike t') (x : TxStatus) : (t.finish x).Alike (t'.finish x) := by
  obtain ⟨hs, hidx, hbuf, -, -, hact⟩ := h
  exact ⟨hs, hidx, hbuf, rfl, rfl, by simp [hact]⟩

theorem TxSide.Alike.stop {t t' : TxSide} (h : t.Alike t') (x : TxStatus) : (t.stop x).Alike (t'.stop x) := by
  obtain ⟨-, -, -, -, -, hact⟩ := h
  exact TxSide.alike_of_idle rfl rfl rfl rfl rfl (by simp [hact])

theorem TxSide.Alike.emit {c : Config} {t t' : TxSide} (h : t.Alike t') (hi : t.Inv c) (hs : t.state = .send) :
    t.emit.Alike t'.emit := by
  have hbyte := h.byte hi hs
  obtain ⟨hs', hidx, hbuf, hdone, hstatus, hact⟩ := h
  exact ⟨hs', by simp [hidx], hbuf, hdone, hstatus, by simp [hact, hbyte]⟩

/-- What TX_START writes is all that is read of `tx_buf` afterwards. -/
theorem TxSide.Alike.txStart {code plen : Byte} {payload : List Byte} {c : Config} {t t' : TxSide} (h : t.Alike t')
    (hc : c.legal = true) (hfit : plen.toNat ≤ 22 → plen.toNat ≤ payload.length) :
    SameAnswer TxSide.Alike (txStart code plen payload c t) (txStart code plen payload c t') := by
  have hfinish := h.finish .payloadTooLarge
  obtain ⟨hs, -, -, hdone, hstatus, hact⟩ := h
  unfold Machine.txStart
  rw [hs]
  split
  · split
    · exact .ok hfinish
    · obtain ⟨hmax, -⟩ := (Config.legal_iff c).1 hc
      have hp : plen.toNat ≤ 22 := by omega
      have hpkt := appendCrc_requestBody_length c (code := code) (hfit hp)
      refine .ok ⟨rfl, rfl, fun _ => ⟨rfl, ?_⟩, hdone, hstatus, hact⟩
      simp only [txLen_toNat plen hp]
      rw [Buffer.slice_write_take _ (by omega) (by omega), Buffer.slice_write_take _ (by omega) (by omega)]
  · exact .error _

theorem TxSide.Alike.txByte {c : Config} {t t' : TxSide} (h : t.Alike t') (hi : t.Inv c) :
    SameAnswer TxSide.Alike (txByte c t) (txByte c t') := by
  obtain ⟨hs, hidx, hbuf, -⟩ := id h
  unfold Machine.txByte
  rw [hs, hidx]
  split
  next hstate =>
    have hemit := h.emit hi hstate
    obtain ⟨hlen, -⟩ := hbuf hstate
    have hlast : t'.emit.idx = t'.emit.len ↔ t.emit.idx = t.emit.len := by simp [hidx, hlen]
    split
    · by_cases hend : t.emit.idx = t.emit.len
      · rw [if_pos hend, if_pos (hlast.2 hend)]
        exact .ok (hemit.stop .ok)
      · rw [if_neg hend, if_neg (mt hlast.1 hend)]
        exact .ok hemit
    · exact .error _
  · exact .error _

theorem TxSide.Alike.txFail {t t' : TxSide} (h : t.Alike t') (c : Config) :
    SameAnswer TxSide.Alike (txFail c t) (txFail c t') := by
  have hstop := h.stop .ioError
  obtain ⟨hs, -⟩ := h
  unfold Machine.txFail
  rw [hs]
  split
  · exact .ok hstop
  · exact .error _

end Sys2Proof.Machine
end

section
/-! SUPPORT. What the input words decode to: a packet word to a row whose meaning is `transfer`, an event word to a
vector with all its payload lanes. -/

namespace Sys2Proof.Machine

/-- The class tag and the code make up the type byte (R62). -/
theorem typeByteOf_typeClass_typeCode (t : Byte) : typeByteOf (typeClass t) (typeCode t) = t := by
  apply BitVec.eq_of_getLsbD_eq
  intro i hi
  rw [typeByteOf, BitVec.getLsbD_append]
  by_cases hlow : i < 6
  · simp [typeCode, hlow]
  · simp [typeClass, hlow, show i - 6 < 2 by omega, show 6 + (i - 6) = i by omega]

/-- A class tag that is none of the other three is 0b11. -/
theorem class_eq_three {k : BitVec 2} (h10 : k ≠ 0b10) (h01 : k ≠ 0b01) (h00 : k ≠ 0b00) : k = 0b11 := by
  revert k
  decide

/-- The TYPE row of type byte `t` with the transfer `x`. -/
def IsTypeRow (t : Byte) (x : Transfer) (i : Instr) : Prop := i.typeByte = some t ∧ i.transfer = some x

/-- The fifteen named bytes first, then the four classes (R67). -/
theorem instrOfType_isTypeRow (t : Byte) (x : Transfer) : IsTypeRow t x (instrOfType t x) := by
  have hbyte := typeByteOf_typeClass_typeCode t
  unfold instrOfType
  iterate 15 refine iteInduction (motive := IsTypeRow t x) (fun ht => ⟨by rw [ht]; rfl, rfl⟩) fun _ => ?_
  iterate 3
    refine iteInduction (motive := IsTypeRow t x) (fun hclass => ⟨congrArg some (hclass ▸ hbyte), rfl⟩) fun _ => ?_
  next h10 h01 h00 => exact ⟨congrArg some (class_eq_three h10 h01 h00 ▸ hbyte), rfl⟩

/-- The TYPE row of a type byte is the transfer of that byte. -/
theorem exec_instrOfType (t : Byte) (x : Transfer) (s : State) : exec (instrOfType t x) s = transfer t x s := by
  obtain ⟨htype, htransfer⟩ := instrOfType_isTypeRow t x
  exact exec_transfer htype htransfer s

/-- A packet word decodes to the TYPE row of some type byte, with a transfer the format can hold. -/
theorem decode_packet_eq_ok {f : Format} {st : RxState} {bytes more : List Byte} {i : Instr} (hf : f ≠ .event)
    (h : decode f st bytes = .ok (i, more)) : ∃ t x, i = instrOfType t x ∧ x.wf = true := by
  cases f with
  | event => exact absurd rfl hf
  | request =>
    obtain _ | ⟨t, _ | ⟨n, rest⟩⟩ := bytes <;> simp only [decode, decodeRequest, reduceCtorEq] at h
    split at h
    next hlong => exact ⟨t, .sendOversize n, by cases h; rfl, by simpa [Transfer.wf] using hlong⟩
    next hlegal =>
      split at h
      · cases h
      · exact ⟨t, .send (rest.take n.toNat), by cases h; rfl, by simp [Transfer.wf]; omega⟩
  | packet =>
    obtain _ | ⟨t, _ | ⟨n, rest⟩⟩ := bytes <;> simp only [decode, decodePacket, reduceCtorEq] at h
    split at h
    next hlong => exact ⟨t, .receiveOversize n, by cases h; rfl, by simpa [Transfer.wf] using hlong⟩
    next hlegal =>
      split at h
      · exact ⟨t, .receive (rest.take n.toNat) _, by cases h; rfl, by simp [Transfer.wf]; omega⟩
      · cases h

theorem decodeVector_payload_length {bytes more : List Byte} {v : EventVector}
    (h : decodeVector bytes = .ok (v, more)) : v.payload.length = 22 := by
  unfold decodeVector at h
  split at h
  · split at h
    · cases h
    · cases h
      simp only [List.length_take]
      omega
  · cases h

end Sys2Proof.Machine
end

section
/-! SUPPORT. A step of two states that meet the invariants and are alike: the same stop, or next states that meet the
invariants and are alike again. On the diagonal this says that a step keeps the invariants. -/

namespace Sys2Proof.Machine

/-- Two states that meet the invariants and differ at most in registers that hold no value. -/
structure State.Twins (s s' : State) : Prop where
  inv : s.Inv
  inv' : s'.Inv
  alike : s.Alike s'

/-- The same stop, or next states that are twins. -/
inductive TwinAnswers : Result → Result → Prop
  | next {s s' : State} (h : s.Twins s') : TwinAnswers (.next s) (.next s')
  | fault (r : Fault) : TwinAnswers (.fault r) (.fault r)
  | refused (r : Refusal) : TwinAnswers (.refused r) (.refused r)

/-- What is asked of an operation of one side: it keeps the side's invariants and answers alike sides alike. -/
structure KeepsTwins {σ : Type} (Inv : Config → σ → Prop) (Alike : σ → σ → Prop)
    (op : Config → σ → Except Fault σ) : Prop where
  inv : ∀ {c x y}, c.legal = true → Inv c x → op c x = .ok y → Inv c y
  alike : ∀ {c x x'}, c.legal = true → Inv c x → Alike x x' → SameAnswer Alike (op c x) (op c x')

/-! ### The operations -/

theorem rxByteType_keepsTwins (b : Byte) : KeepsTwins RxSide.Inv RxSide.Alike (rxByteType b) :=
  ⟨fun hc hi hop => hi.rxByteType hc hop, fun _ _ h => h.rxByteType b _⟩

theorem rxByteLength_keepsTwins (b : Byte) : KeepsTwins RxSide.Inv RxSide.Alike (rxByteLength b) :=
  ⟨fun _ hi hop => hi.rxByteLength hop, fun _ hi h => h.rxByteLength hi b⟩

theorem rxByteBody_keepsTwins (b : Byte) : KeepsTwins RxSide.Inv RxSide.Alike (rxByteBody b) :=
  ⟨fun _ hi hop => hi.rxByteBody hop, fun hc hi h => h.rxByteBody hi hc b⟩

theorem rxByte_keepsTwins (b : Byte) : KeepsTwins RxSide.Inv RxSide.Alike (rxByte b) :=
  ⟨fun hc hi hop => hi.rxByte hc hop, fun hc hi h => h.rxByte hi hc b⟩

theorem rxTick_keepsTwins : KeepsTwins RxSide.Inv RxSide.Alike rxTick :=
  ⟨fun _ hi hop => hi.rxTick hop, fun _ _ h => h.rxTick _⟩

theorem rxAccept_keepsTwins : KeepsTwins RxSide.Inv RxSide.Alike rxAccept :=
  ⟨fun _ hi hop => hi.rxAccept hop, fun _ hi h => h.rxAccept hi⟩

theorem rxClose_keepsTwins : KeepsTwins RxSide.Inv RxSide.Alike rxClose :=
  ⟨fun _ hi hop => hi.rxClose hop, fun _ _ h => h.rxClose _⟩

theorem txStart_keepsTwins (code : Byte) {plen : Byte} {payload : List Byte}
    (hfit : plen.toNat ≤ 22 → plen.toNat ≤ payload.length) :
    KeepsTwins TxSide.Inv TxSide.Alike (txStart code plen payload) :=
  ⟨fun hc hi hop => hi.txStart hc hfit hop, fun hc _ h => h.txStart hc hfit⟩

theorem txByte_keepsTwins : KeepsTwins TxSide.Inv TxSide.Alike txByte :=
  ⟨fun _ hi hop => hi.txByte hop, fun _ hi h => h.txByte hi⟩

theorem txFail_keepsTwins : KeepsTwins TxSide.Inv TxSide.Alike txFail :=
  ⟨fun _ _ hop => TxSide.Inv.txFail hop, fun _ _ h => h.txFail _⟩

/-! ### Sequencing -/

theorem onRx_twins {op : Config → RxSide → Except Fault RxSide} (hop : KeepsTwins RxSide.Inv RxSide.Alike op)
    {s s' : State} (h : s.Twins s') : TwinAnswers (onRx op s) (onRx op s') := by
  obtain ⟨⟨hlegal, hrx, htx⟩, ⟨-, hrx', htx'⟩, hcfg, hinputs, halike, htxAlike⟩ := h
  have hans := hop.alike hlegal hrx halike
  rw [hcfg] at hrx' htx'
  unfold onRx
  rw [hcfg]
  generalize hres : op s.cfg s.rx = o, hres' : op s.cfg s'.rx = o' at hans ⊢
  cases hans with
  | ok hnext =>
    exact .next ⟨⟨hlegal, hop.inv hlegal hrx hres, htx⟩, ⟨hlegal, hop.inv hlegal hrx' hres', htx'⟩, rfl, hinputs,
      hnext, htxAlike⟩
  | error e => exact .fault e

theorem onTx_twins {op : Config → TxSide → Except Fault TxSide} (hop : KeepsTwins TxSide.Inv TxSide.Alike op)
    {s s' : State} (h : s.Twins s') : TwinAnswers (onTx op s) (onTx op s') := by
  obtain ⟨⟨hlegal, hrx, htx⟩, ⟨-, hrx', htx'⟩, hcfg, hinputs, hrxAlike, halike⟩ := h
  have hans := hop.alike hlegal htx halike
  rw [hcfg] at hrx' htx'
  unfold onTx
  rw [hcfg]
  generalize hres : op s.cfg s.tx = o, hres' : op s.cfg s'.tx = o' at hans ⊢
  cases hans with
  | ok hnext =>
    exact .next ⟨⟨hlegal, hrx, hop.inv hlegal htx hres⟩, ⟨hlegal, hrx', hop.inv hlegal htx' hres'⟩, rfl, hinputs,
      hrxAlike, hnext⟩
  | error e => exact .fault e

theorem andThen_twins {o o' : Result} {f f' : State → Result} (ho : TwinAnswers o o')
    (hf : ∀ {s s' : State}, s.Twins s' → TwinAnswers (f s) (f' s')) : TwinAnswers (andThen o f) (andThen o' f') := by
  cases ho with
  | next h => exact hf h
  | fault r => exact .fault r
  | refused x => exact .refused x

/-- A rising edge. -/
theorem State.Twins.beginCycle {s s' : State} (h : s.Twins s') : s.beginCycle.Twins s'.beginCycle := by
  obtain ⟨⟨hlegal, hrx, htx⟩, ⟨hlegal', hrx', htx'⟩, hcfg, hinputs, hrxAlike, htxAlike⟩ := h
  exact ⟨⟨hlegal, hrx.clearPulse, htx⟩, ⟨hlegal', hrx'.clearPulse, htx'⟩, hcfg, hinputs, hrxAlike.clearPulse,
    htxAlike.clearPulse⟩

/-- What is to come is no part of the invariants. -/
theorem State.Twins.withInputs {s s' : State} (h : s.Twins s') (xs : List Input) :
    State.Twins { s with inputs := xs } { s' with inputs := xs } := by
  obtain ⟨hinv, hinv', hcfg, -, hrxAlike, htxAlike⟩ := h
  exact ⟨hinv, hinv', hcfg, rfl, hrxAlike, htxAlike⟩

theorem execReset_twins {s s' : State} (h : s.Twins s') : TwinAnswers (exec .reset s) (exec .reset s') := by
  obtain ⟨⟨hlegal, -⟩, ⟨hlegal', -⟩, hcfg, hinputs, hrxAlike, htxAlike⟩ := h
  exact .next ⟨⟨hlegal, s.rx.inv_toReset _, TxSide.inv_of_idle rfl rfl⟩,
    ⟨hlegal', s'.rx.inv_toReset _, TxSide.inv_of_idle rfl rfl⟩, hcfg, hinputs, hrxAlike.toReset, htxAlike.toReset⟩

/-! ### Packet words -/

theorem receiveBytes_twins (bs : List Byte) {s s' : State} (h : s.Twins s') :
    TwinAnswers (receiveBytes bs s) (receiveBytes bs s') := by
  induction bs generalizing s s' with
  | nil => exact .next h
  | cons b bs ih => exact andThen_twins (onRx_twins (rxByte_keepsTwins b) h.beginCycle) ih

/-- A request's length byte never counts more bytes than its payload has; an oversize one is refused. -/
theorem transfer_twins (t : Byte) {x : Transfer} (hx : x.wf = true) {s s' : State} (h : s.Twins s') :
    TwinAnswers (transfer t x s) (transfer t x s') := by
  cases x with
  | send payload =>
    have hfit : (BitVec.ofNat 8 payload.length).toNat ≤ payload.length := Nat.mod_le _ _
    exact onTx_twins (txStart_keepsTwins t fun _ => hfit) h
  | sendOversize plen =>
    have hlong : 22 < plen.toNat := of_decide_eq_true hx
    exact onTx_twins (txStart_keepsTwins t fun _ => by omega) h
  | receive | receiveOversize => exact receiveBytes_twins _ h

/-! ### Outputs that depend on the two control states only (R25, R188) -/

section

variable {s s' : State} (h : s.Alike s')
include h

theorem State.Alike.rxReady : s'.rxReady = s.rxReady := by
  obtain ⟨-, -, ⟨hstate, -⟩, -⟩ := h
  simp only [State.rxReady, hstate]

theorem State.Alike.pktValid : s'.pktValid = s.pktValid := by
  obtain ⟨-, -, ⟨hstate, -⟩, -⟩ := h
  simp only [State.pktValid, hstate]

theorem State.Alike.txqReady : s'.txqReady = s.txqReady := by
  obtain ⟨-, -, -, hstate, -⟩ := h
  simp only [State.txqReady, hstate]

theorem State.Alike.txValid : s'.txValid = s.txValid := by
  obtain ⟨-, -, -, hstate, -⟩ := h
  simp only [State.txValid, hstate]

theorem State.Alike.eventEnabled (e : Event) : eventEnabled s' e = eventEnabled s e := by
  cases e <;> simp only [Machine.eventEnabled, h.rxReady, h.pktValid, h.txqReady, h.txValid]

/-- The events of a clock cycle (R187). -/
theorem State.Alike.vector (p : PortIn) : p.vector s' = p.vector s := by
  unfold PortIn.vector
  rw [h.rxReady, h.pktValid, h.txqReady, h.txValid]

end

/-! ### Event vectors -/

/-- RX_BYTE's row is that of the common `rx_state`; TX_START's payload operand is as long as `plen` may ask. -/
theorem perform_twins {v : EventVector} (hv : v.payload.length = 22) (e : Event) {s s' : State} (h : s.Twins s') :
    TwinAnswers (perform v e s) (perform v e s') := by
  obtain ⟨-, -, ⟨hstate, -⟩, -⟩ := h.alike
  unfold perform
  rw [hstate]
  cases e with
  | reset => exact execReset_twins h
  | tick => exact onRx_twins rxTick_keepsTwins h
  | pktAccept => exact onRx_twins rxAccept_keepsTwins h
  | rxByte =>
    cases s.rx.state with
    | awaitType => exact onRx_twins (rxByteType_keepsTwins v.rxData) h
    | awaitLength => exact onRx_twins (rxByteLength_keepsTwins v.rxData) h
    | awaitBody => exact onRx_twins (rxByteBody_keepsTwins v.rxData) h
    | complete | terminated => exact .fault _
  | rxClose => exact onRx_twins rxClose_keepsTwins h
  | txStart => exact onTx_twins (txStart_keepsTwins v.code fun hp => hp.trans hv.ge) h
  | txFail => exact onTx_twins txFail_keepsTwins h
  | txByte => exact onTx_twins txByte_keepsTwins h

theorem performAll_twins {v : EventVector} (hv : v.payload.length = 22) (es : List Event) {s s' : State}
    (h : s.Twins s') : TwinAnswers (performAll v es s) (performAll v es s') := by
  induction es generalizing s s' with
  | nil => exact .next h
  | cons e es ih =>
    unfold performAll
    rw [h.alike.eventEnabled]
    split
    · exact andThen_twins (perform_twins hv e h) ih
    · exact ih h

theorem performVector_twins {v : EventVector} (hv : v.payload.length = 22) {s s' : State} (h : s.Twins s') :
    TwinAnswers (performVector v s) (performVector v s') := by
  have henabled : eventEnabled s' = eventEnabled s := funext h.alike.eventEnabled
  unfold performVector
  rw [henabled]
  split
  · exact .next h
  · split
    · exact performAll_twins hv _ h
    · exact .fault _

/-! ### The step -/

theorem runWord_twins (f : Format) (bytes : List Byte) {s s' : State} (h : s.Twins s') :
    TwinAnswers (runWord f bytes s) (runWord f bytes s') := by
  obtain ⟨-, -, ⟨hstate, -⟩, -⟩ := h.alike
  cases f with
  | event =>
    simp only [runWord]
    split
    next hdecode => exact performVector_twins (decodeVector_payload_length hdecode) h
    next => exact .refused _
  | request | packet =>
    simp only [runWord, hstate]
    split
    next hdecode =>
      obtain ⟨t, x, rfl, hx⟩ := decode_packet_eq_ok (by decide) hdecode
      rw [exec_instrOfType, exec_instrOfType]
      exact transfer_twins t hx h
    next => exact .refused _

theorem runInput_twins (x : Input) {s s' : State} (h : s.Twins s') :
    TwinAnswers (runInput x s) (runInput x s') := by
  cases x with
  | word f bytes => exact runWord_twins f bytes h
  | cycle p =>
    have hpayload : (p.vector s).payload.length = 22 := by simp [PortIn.vector, payloadOf]
    simp only [runInput, h.alike.vector p]
    exact performVector_twins hpayload h

theorem step_twins {s s' : State} (h : s.Twins s') : TwinAnswers (step s) (step s') := by
  obtain ⟨hlegal, -⟩ := h.inv
  obtain ⟨hlegal', -⟩ := h.inv'
  obtain ⟨-, hinputs, -⟩ := h.alike
  rw [step_of_legal hlegal, step_of_legal hlegal']
  unfold runCycle
  rw [hinputs]
  split
  · exact runInput_twins _ h.beginCycle
  · exact runInput_twins _ (h.beginCycle.withInputs _)

/-! ### The obligations -/

theorem State.Alike.refl (s : State) : s.Alike s :=
  ⟨rfl, rfl, ⟨rfl, rfl, rfl, fun _ => rfl, rfl, rfl, rfl⟩, rfl, rfl, fun _ => ⟨rfl, rfl⟩, rfl, rfl, rfl⟩

theorem TwinAnswers.of_next {s : State} {o : Result} (h : TwinAnswers (.next s) o) :
    ∃ s', o = .next s' ∧ s.Twins s' := by
  cases h with
  | next h => exact ⟨_, rfl, h⟩

theorem TwinAnswers.of_fault {r : Fault} {o : Result} (h : TwinAnswers (.fault r) o) : o = .fault r := by
  cases h
  rfl

theorem TwinAnswers.of_refused {x : Refusal} {o : Result} (h : TwinAnswers (.refused x) o) : o = .refused x := by
  cases h
  rfl

/-- Settles O12: a state that meets the invariants is its own twin, and so is what a step makes of it. -/
theorem stepKeepsInvariants : Obligations.StepKeepsInvariants := by
  unfold Obligations.StepKeepsInvariants
  intro s t hinv hstep
  have hans := step_twins ⟨hinv, hinv, State.Alike.refl s⟩
  rw [hstep] at hans
  obtain ⟨_, -, htwins⟩ := hans.of_next
  exact htwins.inv

/-- What the ports show lies below `rx_cnt` in `COMPLETE`. -/
theorem State.Twins.pktOut {s s' : State} (h : s.Twins s') : s'.pktOut = s.pktOut := by
  obtain ⟨⟨-, hrx, -⟩, -, halike⟩ := h
  obtain ⟨hcfg, -, hrxAlike, -⟩ := id halike
  unfold State.pktOut
  rw [halike.pktValid, hcfg]
  split
  next hvalid => rw [hrxAlike.packet hrx (by simpa [State.pktValid] using hvalid)]
  · rfl

theorem State.Twins.txData {s s' : State} (h : s.Twins s') : s'.txData = s.txData := by
  obtain ⟨⟨-, -, htx⟩, -, halike⟩ := h
  obtain ⟨-, -, -, htxAlike⟩ := id halike
  unfold State.txData
  rw [halike.txValid]
  split
  next hvalid => rw [htxAlike.byte htx (by simpa [State.txValid] using hvalid)]
  · rfl

/-- Settles O13, by the simulation `step_twins`. -/
theorem registersWithoutValueNeverRead : Obligations.RegistersWithoutValueNeverRead := by
  unfold Obligations.RegistersWithoutValueNeverRead
  intro s s' hinv hinv' halike
  have htwins : s.Twins s' := ⟨hinv, hinv', halike⟩
  have hans := step_twins htwins
  refine ⟨htwins.pktOut, htwins.txData, fun t ht => ?_, fun r hr => ?_, fun r hr => ?_⟩
  · rw [ht] at hans
    obtain ⟨t', ht', hnext⟩ := hans.of_next
    exact ⟨t', ht', hnext.alike⟩
  · rw [hr] at hans
    exact hans.of_fault
  · rw [hr] at hans
    exact hans.of_refused

end Sys2Proof.Machine
end

section
/-! SUPPORT. The values and codes of the registers and the ports. -/

namespace Sys2Proof.Machine

/-- While `drop_valid` is 1 the port `drop_reason` shows the register's code. -/
theorem ports_dropReason {s : State} (h : s.rx.dropValid = true) : s.ports.dropReason = some s.rx.dropReason.code := by
  simp [State.ports, State.dropReasonOut, h]

/-- While `tx_done` is 1 the port `tx_status` shows the register's code. -/
theorem ports_txStatus {s : State} (h : s.tx.done = true) : s.ports.txStatus = some s.tx.status.code := by
  simp [State.ports, State.txStatusOut, h]

/-- Settles O11: the reset values and the codes are closed facts; the two code ports follow their registers. -/
theorem resetStateValues : Obligations.ResetStateValues := by
  unfold Obligations.ResetStateValues
  exact ⟨by decide, by decide, by decide, by decide, by decide, by decide,
    fun _ => ⟨ports_dropReason, ports_txStatus⟩⟩

end Sys2Proof.Machine
end

section
/-! SUPPORT. Nothing but the start of a step touches the environment: the parameters and the inputs to come. -/

namespace Sys2Proof.Machine

/-- A result that, where there is a next state, has the parameters and the inputs of `s`. -/
def KeepsEnvironment (s : State) (o : Result) : Prop := ∀ t, o = .next t → t.cfg = s.cfg ∧ t.inputs = s.inputs

theorem keepsEnvironment_next {s t : State} (hcfg : t.cfg = s.cfg) (hinputs : t.inputs = s.inputs) :
    KeepsEnvironment s (.next t) := by
  rintro _ ⟨⟩
  exact ⟨hcfg, hinputs⟩

theorem keepsEnvironment_fault (s : State) (r : Fault) : KeepsEnvironment s (.fault r) := by
  rintro _ ⟨⟩

theorem keepsEnvironment_refused (s : State) (x : Refusal) : KeepsEnvironment s (.refused x) := by
  rintro _ ⟨⟩

theorem onRx_keepsEnvironment (op : Config → RxSide → Except Fault RxSide) (s : State) :
    KeepsEnvironment s (onRx op s) := by
  intro t h
  obtain ⟨r, -, rfl⟩ := onRx_eq_next.1 h
  exact ⟨rfl, rfl⟩

theorem onTx_keepsEnvironment (op : Config → TxSide → Except Fault TxSide) (s : State) :
    KeepsEnvironment s (onTx op s) := by
  intro t h
  obtain ⟨x, -, rfl⟩ := onTx_eq_next.1 h
  exact ⟨rfl, rfl⟩

theorem andThen_keepsEnvironment {s : State} {o : Result} {f : State → Result} (ho : KeepsEnvironment s o)
    (hf : ∀ u, KeepsEnvironment u (f u)) : KeepsEnvironment s (andThen o f) := by
  intro t h
  obtain ⟨u, hu, ht⟩ := andThen_eq_next.1 h
  obtain ⟨hcfg, hinputs⟩ := ho u hu
  obtain ⟨hcfg', hinputs'⟩ := hf u t ht
  exact ⟨hcfg'.trans hcfg, hinputs'.trans hinputs⟩

theorem receiveBytes_keepsEnvironment (bs : List Byte) (s : State) : KeepsEnvironment s (receiveBytes bs s) := by
  induction bs generalizing s with
  | nil => exact keepsEnvironment_next rfl rfl
  | cons b bs ih => exact andThen_keepsEnvironment (onRx_keepsEnvironment (rxByte b) s.beginCycle) ih

theorem transfer_keepsEnvironment (t : Byte) (x : Transfer) (s : State) : KeepsEnvironment s (transfer t x s) := by
  cases x with
  | send | sendOversize => exact onTx_keepsEnvironment _ s
  | receive | receiveOversize => exact receiveBytes_keepsEnvironment _ s

theorem exec_keepsEnvironment (i : Instr) (s : State) : KeepsEnvironment s (exec i s) := by
  cases i with
  | reset => exact keepsEnvironment_next rfl rfl
  | tick | pktAccept | rxByteType | rxByteLength | rxByteBody | rxClose => exact onRx_keepsEnvironment _ s
  | txStart | txFail | txByte => exact onTx_keepsEnvironment _ s
  | _ => exact transfer_keepsEnvironment _ _ s

theorem perform_keepsEnvironment (v : EventVector) (e : Event) (s : State) : KeepsEnvironment s (perform v e s) := by
  unfold perform
  split
  · exact exec_keepsEnvironment _ s
  · exact keepsEnvironment_fault s _

theorem performAll_keepsEnvironment (v : EventVector) (es : List Event) (s : State) :
    KeepsEnvironment s (performAll v es s) := by
  induction es generalizing s with
  | nil => exact keepsEnvironment_next rfl rfl
  | cons e es ih =>
    unfold performAll
    split
    · exact andThen_keepsEnvironment (perform_keepsEnvironment v e s) ih
    · exact ih s

theorem performVector_keepsEnvironment (v : EventVector) (s : State) : KeepsEnvironment s (performVector v s) := by
  unfold performVector
  split
  · exact keepsEnvironment_next rfl rfl
  · split
    · exact performAll_keepsEnvironment v _ s
    · exact keepsEnvironment_fault s _

theorem runWord_keepsEnvironment (f : Format) (bytes : List Byte) (s : State) :
    KeepsEnvironment s (runWord f bytes s) := by
  cases f with
  | event =>
    simp only [runWord]
    split
    · exact performVector_keepsEnvironment _ s
    · exact keepsEnvironment_refused s _
  | request | packet =>
    simp only [runWord]
    split
    · exact exec_keepsEnvironment _ s
    · exact keepsEnvironment_refused s _

theorem runInput_keepsEnvironment (x : Input) (s : State) : KeepsEnvironment s (runInput x s) := by
  cases x with
  | word f bytes => exact runWord_keepsEnvironment f bytes s
  | cycle p => exact performVector_keepsEnvironment _ s

/-- A cycle takes the next input before anything is performed. -/
theorem runCycle_keepsEnvironment (s : State) :
    KeepsEnvironment { s with inputs := s.inputs.tail } (runCycle s) := by
  obtain ⟨cfg, rx, tx, _ | ⟨x, rest⟩⟩ := s
  · exact runInput_keepsEnvironment (.cycle .quiet) (State.beginCycle ⟨cfg, rx, tx, []⟩)
  · exact runInput_keepsEnvironment x (State.beginCycle ⟨cfg, rx, tx, rest⟩)

/-- Settles O9: only a legal configuration steps, and what its cycle runs keeps the environment. -/
theorem stepKeepsParameters : Obligations.StepKeepsParameters := by
  unfold Obligations.StepKeepsParameters
  intro s t hstep
  cases hlegal : s.cfg.legal with
  | false => rw [step_of_not_legal hlegal] at hstep; cases hstep
  | true => exact runCycle_keepsEnvironment s t (step_of_legal hlegal ▸ hstep)

end Sys2Proof.Machine
end

section
/-! SUPPORT. The two agents share nothing (R10, R54): each event is an operation of one side, and operations of different
sides commute. -/

namespace Sys2Proof.Machine

/-! ### Events as operations of one side -/

theorem exec_receiveEvent {i : Instr} (hi : isReceiveEvent i = true) : ∃ op, exec i = onRx op := by
  cases i with
  | tick | pktAccept | rxByteType | rxByteLength | rxByteBody | rxClose => exact ⟨_, rfl⟩
  | _ => cases hi

theorem exec_transmitEvent {j : Instr} (hj : isTransmitEvent j = true) : ∃ op, exec j = onTx op := by
  cases j with
  | txStart | txFail | txByte => exact ⟨_, rfl⟩
  | _ => cases hj

/-! ### Operations of different sides -/

section

variable {f : Config → RxSide → Except Fault RxSide} {g : Config → TxSide → Except Fault TxSide} {s a b : State}

theorem onRx_frame (ha : onRx f s = .next a) : a.tx = s.tx ∧ a.cfg = s.cfg := by
  obtain ⟨r, -, rfl⟩ := onRx_eq_next.1 ha
  exact ⟨rfl, rfl⟩

theorem onTx_frame (hb : onTx g s = .next b) : b.rx = s.rx ∧ b.cfg = s.cfg := by
  obtain ⟨x, -, rfl⟩ := onTx_eq_next.1 hb
  exact ⟨rfl, rfl⟩

theorem onRx_onTx_comm (ha : onRx f s = .next a) (hb : onTx g s = .next b) :
    ∃ t, onTx g a = .next t ∧ onRx f b = .next t := by
  obtain ⟨r, hr, rfl⟩ := onRx_eq_next.1 ha
  obtain ⟨x, hx, rfl⟩ := onTx_eq_next.1 hb
  exact ⟨{ s with rx := r, tx := x }, onTx_eq_next.2 ⟨x, hx, rfl⟩, onRx_eq_next.2 ⟨r, hr, rfl⟩⟩

theorem onTx_fault_after_onRx {e : Fault} (ha : onRx f s = .next a) (he : onTx g s = .fault e) :
    onTx g a = .fault e := by
  obtain ⟨htx, hcfg⟩ := onRx_frame ha
  rw [onTx_eq_fault, htx, hcfg]
  exact onTx_eq_fault.1 he

theorem onRx_fault_after_onTx {e : Fault} (hb : onTx g s = .next b) (he : onRx f s = .fault e) :
    onRx f b = .fault e := by
  obtain ⟨hrx, hcfg⟩ := onTx_frame hb
  rw [onRx_eq_fault, hrx, hcfg]
  exact onRx_eq_fault.1 he

end

/-- Settles O50: a receive-side event is an operation of the one side, a transmit-side event of the other. -/
theorem sidesDoNotInteract : Obligations.SidesDoNotInteract := by
  unfold Obligations.SidesDoNotInteract
  intro i j s hi hj
  obtain ⟨f, hf⟩ := exec_receiveEvent hi
  obtain ⟨g, hg⟩ := exec_transmitEvent hj
  rw [hf, hg]
  refine ⟨fun a ha => ⟨?frame, fun b hb => ⟨?frame', onRx_onTx_comm ha hb⟩, fun e => onTx_fault_after_onRx ha⟩,
    fun b e hb => onRx_fault_after_onTx hb⟩
  case frame => exact (onRx_frame ha).1
  case frame' => exact (onTx_frame hb).1

end Sys2Proof.Machine
end

section
/-! SUPPORT. The transmit stream (R42): TX_BYTE repeated to the end of the packet puts what is left of it on the stream in
index order. -/

namespace Sys2Proof.Machine

/-- A slice begins with the byte at its start. -/
theorem Buffer.slice_eq_cons (buf : Buffer) {i j : Nat} (hij : i < j) (hj : j ≤ 26) :
    buf.slice i j = buf.byte i :: buf.slice (i + 1) j := by
  have hi : i < (buf.toList.take j).length := by simp; omega
  rw [Buffer.slice, List.drop_eq_getElem_cons hi, List.getElem_take, Buffer.byte, List.getElem_eq_getD 0]
  rfl

@[simp] theorem Buffer.slice_self (buf : Buffer) (i : Nat) : buf.slice i i = [] := by
  simp [Buffer.slice]

/-- The transmit side once every byte from `tx_idx` on has left (R161). -/
def TxSide.sent (t : TxSide) : TxSide :=
  TxSide.stop .ok { t with actions := t.actions ++ (t.buf.slice t.idx.toNat t.len.toNat).map .txOut }

section

variable {c : Config} {t : TxSide} (hs : t.state = .send) (hlen : t.len.toNat ≤ 26)
include hs hlen

theorem txByte_last (hlast : t.idx.toNat + 1 = t.len.toNat) : txByte c t = .ok t.sent := by
  have hlt : t.idx.toNat < 26 := by omega
  have hend : t.idx + 1 = t.len := BitVec.eq_of_toNat_eq ((count_succ_toNat _ hlt).trans hlast)
  have hslice : t.buf.slice t.idx.toNat t.len.toNat = [t.buf.byte t.idx.toNat] := by
    rw [Buffer.slice_eq_cons _ (by omega) hlen, hlast, Buffer.slice_self]
  refine txByte_eq_ok.2 ⟨hs, hlt, .inl ⟨hend, ?_⟩⟩
  rw [TxSide.sent, hslice]
  rfl

/-- Before the last byte, TX_BYTE sends the first of those that are left. -/
theorem txByte_more (hmore : t.idx.toNat + 1 < t.len.toNat) :
    txByte c t = .ok t.emit ∧ t.emit.sent = t.sent := by
  have hlt : t.idx.toNat < 26 := by omega
  have hidx := count_succ_toNat _ hlt
  refine ⟨txByte_eq_ok.2 ⟨hs, hlt, .inr ⟨fun hend => ?_, rfl⟩⟩, ?_⟩
  · rw [← hend, hidx] at hmore
    exact lt_irrefl _ hmore
  · rw [TxSide.sent, TxSide.sent, TxSide.emit_idx, hidx, Buffer.slice_eq_cons t.buf (by omega) hlen, List.map_cons,
      List.append_cons]
    rfl

end

/-- As many TX_BYTEs as there are bytes left. -/
theorem execTimes_txByte {n : Nat} {s : State} (hs : s.tx.state = .send) (hlen : s.tx.len.toNat ≤ 26)
    (hn : s.tx.idx.toNat + (n + 1) = s.tx.len.toNat) :
    execTimes .txByte (n + 1) s = .next { s with tx := s.tx.sent } := by
  induction n generalizing s with
  | zero =>
    have hlast : exec .txByte s = .next { s with tx := s.tx.sent } :=
      onTx_eq_next.2 ⟨_, txByte_last hs hlen hn, rfl⟩
    rw [execTimes, hlast, andThen_next, execTimes]
  | succ n ih =>
    obtain ⟨hop, hsent⟩ := txByte_more (c := s.cfg) hs hlen (by omega)
    have hfirst : exec .txByte s = .next { s with tx := s.tx.emit } := onTx_eq_next.2 ⟨_, hop, rfl⟩
    have hidx := count_succ_toNat s.tx.idx (by omega)
    have hrest := ih (s := { s with tx := s.tx.emit }) hs hlen (by rw [TxSide.emit_idx, TxSide.emit_len, hidx]; omega)
    rw [execTimes, hfirst, andThen_next, hrest, hsent]

/-- Settles O36: TX_START puts the packet in `tx_buf[0 .. plen + 4)`, and as many TX_BYTEs send that slice. -/
theorem requestBytesReachTheStream : Obligations.RequestBytesReachTheStream := by
  unfold Obligations.RequestBytesReachTheStream
  intro code plen payload s hlegal hpayload hs hp
  obtain ⟨hmax, -⟩ := (Config.legal_iff s.cfg).1 hlegal
  have hzero : (0 : Count).toNat = 0 := rfl
  have hlen := txLen_toNat plen (by omega)
  have hpkt := appendCrc_requestBody_length s.cfg (code := code) (plen := plen) (payload := payload) (by omega)
  have hslice := Buffer.slice_write s.tx.buf (appendCrc s.cfg (requestBody code plen payload)) (by omega)
  rw [hpkt, ← hlen] at hslice
  have hstart : exec (.txStart code plen payload) s = .next _ :=
    onTx_eq_next.2 ⟨_, txStart_eq_ok.2 ⟨hs, .inr ⟨hp, rfl⟩⟩, rfl⟩
  rw [hstart, andThen_next, execTimes_txByte rfl (by rw [hlen]; omega) (by rw [hzero, hlen]; omega)]
  refine ⟨_, rfl, ?actions, rfl, rfl, rfl, rfl, rfl⟩
  case actions =>
    simp only [TxSide.sent, TxSide.stop_actions, hzero, hslice]
    rw [requestBody]

end Sys2Proof.Machine
end

section
/-! SUPPORT. Encoder and decoder of packet words: a word carries the type byte and the transfer of its TYPE row, and a
type byte belongs to one row (R60 to R68). -/

namespace Sys2Proof.Machine

/-! ### What a TYPE row encodes -/

theorem encode_of_isTypeRow {t : Byte} {x : Transfer} {i : Instr} (h : IsTypeRow t x i) :
    encode i = encodeTransfer t x := by
  obtain ⟨htype, htransfer⟩ := h
  cases i <;> cases htype <;> cases htransfer <;> rfl

theorem format_of_transfer {x : Transfer} {i : Instr} (h : i.transfer = some x) : i.format = x.format := by
  cases i <;> cases h <;> rfl

theorem transfer_wf_of_wf {x : Transfer} {i : Instr} (h : i.transfer = some x) (hwf : i.wf = true) : x.wf = true := by
  cases i with
  | reportOther | class01Other | class00Other => cases h; exact (Bool.and_eq_true_iff.1 hwf).1
  | _ => cases h <;> exact hwf

/-! ### Which row a type byte belongs to -/

@[simp] theorem typeClass_typeByteOf (k : BitVec 2) (c : BitVec 6) : typeClass (typeByteOf k c) = k :=
  BitVec.extractLsb'_append_eq_left

@[simp] theorem typeCode_typeByteOf (k : BitVec 2) (c : BitVec 6) : typeCode (typeByteOf k c) = c :=
  BitVec.extractLsb'_append_eq_right

/-- The codes of a class that have rows of their own (R67). -/
def namedCodes (k : BitVec 2) : List (BitVec 6) :=
  if k = 0b10 then namedReportCodes else if k = 0b11 then [] else namedCommandCodes

/-- A named type byte is a named code in its class (R67). -/
theorem typeByteOf_mem_namedTypes (k : BitVec 2) (c : BitVec 6) :
    typeByteOf k c ∈ namedTypes ↔ c ∈ namedCodes k := by
  revert k c
  decide

theorem mem_namedTypes_iff (t : Byte) : t ∈ namedTypes ↔ typeCode t ∈ namedCodes (typeClass t) := by
  rw [← typeByteOf_mem_namedTypes, typeByteOf_typeClass_typeCode]

/-- A type byte without a row of its own goes to the row of its class (R147). -/
theorem instrOfType_of_not_named {t : Byte} (x : Transfer) (h : t ∉ namedTypes) :
    instrOfType t x =
      if typeClass t = 0b10 then .reportOther (typeCode t) x
      else if typeClass t = 0b01 then .class01Other (typeCode t) x
      else if typeClass t = 0b00 then .class00Other (typeCode t) x
      else .class11Other (typeCode t) x := by
  unfold instrOfType
  iterate 15 rw [if_neg (by rintro rfl; exact h (by decide))]

/-- A catch-all row with a code that no earlier row takes is the row of its type byte. -/
theorem instrOfType_typeByteOf {k : BitVec 2} {c : BitVec 6} (x : Transfer) (h : c ∉ namedCodes k) :
    instrOfType (typeByteOf k c) x =
      if k = 0b10 then .reportOther c x else if k = 0b01 then .class01Other c x
      else if k = 0b00 then .class00Other c x else .class11Other c x := by
  rw [instrOfType_of_not_named x ((typeByteOf_mem_namedTypes k c).not.2 h), typeClass_typeByteOf, typeCode_typeByteOf]

/-- A well-formed TYPE row is the row of its type byte: no two rows share one. -/
theorem instrOfType_of_isTypeRow {t : Byte} {x : Transfer} {i : Instr} (h : IsTypeRow t x i) (hwf : i.wf = true) :
    instrOfType t x = i := by
  obtain ⟨htype, htransfer⟩ := h
  cases i with
  | reportOther c | class01Other c | class00Other c =>
    cases htype; cases htransfer
    exact instrOfType_typeByteOf x (by simpa [namedCodes] using (Bool.and_eq_true_iff.1 hwf).2)
  | class11Other c =>
    cases htype; cases htransfer
    exact instrOfType_typeByteOf x List.not_mem_nil
  | _ => cases htype <;> cases htransfer <;> rfl

/-- The row of a type byte is well-formed when its transfer is: a catch-all row gets only codes no earlier row takes. -/
theorem instrOfType_wf (t : Byte) {x : Transfer} (hx : x.wf = true) : (instrOfType t x).wf = true := by
  by_cases h : t ∈ namedTypes
  case pos =>
    simp only [namedTypes, List.mem_cons, List.not_mem_nil, or_false] at h
    rcases h with rfl | rfl | rfl | rfl | rfl | rfl | rfl | rfl | rfl | rfl | rfl | rfl | rfl | rfl | rfl <;> exact hx
  case neg =>
    rw [instrOfType_of_not_named x h]
    rw [mem_namedTypes_iff] at h
    split_ifs with h10 h01 h00
    · simpa [Instr.wf, hx, namedCodes, h10] using h
    · simpa [Instr.wf, hx, namedCodes, h01] using h
    · simpa [Instr.wf, hx, namedCodes, h00] using h
    · exact hx

/-! ### The words of a transfer -/

/-- A length that the format admits is its own length byte. -/
theorem toNat_lengthByte {n : Nat} (h : n ≤ formatMaxData) : (BitVec.ofNat 8 n).toNat = n := by
  rw [formatMaxData] at h
  simp
  omega

/-- The words of a well-formed transfer are read as the row of the type byte with that transfer. -/
theorem decode_encodeTransfer (t : Byte) {x : Transfer} (hx : x.wf = true) (st : RxState) (more : List Byte) :
    decode x.format st (encodeTransfer t x ++ more) = .ok (instrOfType t x, more) := by
  cases x with
  | send payload =>
    have hle : payload.length ≤ formatMaxData := of_decide_eq_true hx
    simp [decode, Transfer.format, encodeTransfer, decodeRequest, toNat_lengthByte hle, Nat.not_lt.2 hle]
  | sendOversize plen =>
    have hlt : formatMaxData < plen.toNat := of_decide_eq_true hx
    simp [decode, Transfer.format, encodeTransfer, decodeRequest, hlt]
  | receive data crc =>
    have hle : data.length ≤ formatMaxData := of_decide_eq_true hx
    simp [decode, Transfer.format, encodeTransfer, decodePacket, toNat_lengthByte hle, Nat.not_lt.2 hle]
  | receiveOversize len =>
    have hlt : formatMaxData < len.toNat := of_decide_eq_true hx
    simp [decode, Transfer.format, encodeTransfer, decodePacket, hlt]

/-- What the decoder reads from a packet word is the row of its first byte with a well-formed transfer that encodes to
the bytes read. -/
theorem eq_encodeTransfer_of_decode {f : Format} {st : RxState} {t : Byte} {bytes more : List Byte} {i : Instr}
    (hf : f ≠ .event) (h : decode f st (t :: bytes) = .ok (i, more)) :
    ∃ x, i = instrOfType t x ∧ x.wf = true ∧ x.format = f ∧ encodeTransfer t x ++ more = t :: bytes := by
  cases f with
  | event => exact absurd rfl hf
  | request =>
    obtain _ | ⟨n, rest⟩ := bytes <;> simp only [decode, decodeRequest, reduceCtorEq] at h
    split at h
    next hlong => cases h; exact ⟨.sendOversize n, rfl, decide_eq_true hlong, rfl, rfl⟩
    next hlegal =>
      split at h
      · cases h
      next hrest =>
        have hlen : (rest.take n.toNat).length = n.toNat := List.length_take_of_le (Nat.not_lt.1 hrest)
        cases h
        exact ⟨.send (rest.take n.toNat), rfl, decide_eq_true (hlen.trans_le (Nat.not_lt.1 hlegal)), rfl, by
          simp [encodeTransfer, hlen]⟩
  | packet =>
    obtain _ | ⟨n, rest⟩ := bytes <;> simp only [decode, decodePacket, reduceCtorEq] at h
    split at h
    next hlong => cases h; exact ⟨.receiveOversize n, rfl, decide_eq_true hlong, rfl, rfl⟩
    next hlegal =>
      split at h
      next lo hi rest' hdrop =>
        have hrest : n.toNat < rest.length := List.length_lt_of_drop_ne_nil (by simp [hdrop])
        have hlen : (rest.take n.toNat).length = n.toNat := List.length_take_of_le hrest.le
        have hsplit : rest.take n.toNat ++ lo :: hi :: more = rest := by
          cases h
          rw [← hdrop, List.take_append_drop]
        cases h
        exact ⟨.receive (rest.take n.toNat) (halfOf hi lo), rfl,
          decide_eq_true (hlen.trans_le (Nat.not_lt.1 hlegal)), rfl, by simp [encodeTransfer, hlen, hsplit]⟩
      · cases h

/-- Settles O2: the row of the first byte, with a transfer that encodes to the bytes read. -/
theorem encodeOfDecodedPacket : Obligations.EncodeOfDecodedPacket := by
  unfold Obligations.EncodeOfDecodedPacket
  intro f st t bytes more i hf h
  obtain ⟨x, rfl, hx, hformat, hbytes⟩ := eq_encodeTransfer_of_decode hf h
  obtain ⟨htype, htransfer⟩ := instrOfType_isTypeRow t x
  exact ⟨instrOfType_wf t hx, (format_of_transfer htransfer).trans hformat, htype,
    encode_of_isTypeRow ⟨htype, htransfer⟩ ▸ hbytes⟩

end Sys2Proof.Machine
end

section
/-! SUPPORT. Event words (R66): the events of a vector, and the vector with one event that each EVENT row encodes to. -/

namespace Sys2Proof.Machine

theorem events_of_reset {v : EventVector} (h : v.ev.getLsbD 0 = true) : v.events = [.reset] := if_pos h

theorem events_of_not_reset {v : EventVector} (h : v.ev.getLsbD 0 = false) :
    v.events = Event.afterReset.filter fun e => v.ev.getLsbD e.bit :=
  if_neg (by simpa [Event.bit] using h)

/-- Settles O4: without RESET, the events are those of `afterReset`, which is in bit order, whose bits are set. -/
theorem vectorEventsAscending : Obligations.VectorEventsAscending := by
  unfold Obligations.VectorEventsAscending
  refine fun v => ⟨events_of_reset, fun h => ?_⟩
  rw [events_of_not_reset h]
  have hsorted : (Event.afterReset.map Event.bit).Pairwise (· < ·) := by decide
  refine ⟨hsorted.sublist (List.filter_sublist.map _), fun e => ?_⟩
  rw [List.mem_filter]
  cases e with
  | reset => simpa [Event.afterReset, Event.bit] using h
  | _ => simp [Event.afterReset]

/-- The vector of one event has that event's bit alone. -/
theorem getLsbD_oneHot (e e' : Event) : e.oneHot.getLsbD e'.bit = decide (e = e') := by
  cases e <;> cases e' <;> decide

@[simp] theorem events_oneHot (e : Event) (b code plen : Byte) (payload : List Byte) :
    (EventVector.mk e.oneHot b code plen payload).events = [e] := by
  cases e <;> simp [EventVector.events, getLsbD_oneHot, Event.afterReset]

/-- An event word holds its fields in order (assumption 6). -/
theorem decodeVector_append (ev b code plen : Byte) {payload : List Byte} (h : payload.length = 22)
    (more : List Byte) :
    decodeVector (ev :: b :: code :: plen :: (payload ++ more)) = .ok (⟨ev, b, code, plen, payload⟩, more) := by
  simp [decodeVector, h]

/-- A word in which one event occurs is read as the row of that event. -/
theorem decodeEvent_oneHot {e : Event} {b code plen : Byte} {payload : List Byte} {st : RxState} {i : Instr}
    (h : payload.length = 22) (hi : (EventVector.mk e.oneHot b code plen payload).instr st e = some i)
    (more : List Byte) :
    decodeEvent st (e.oneHot :: b :: code :: plen :: (payload ++ more)) = .ok (i, more) := by
  simp [decodeEvent, decodeVector_append, h, hi]

/-- RX_BYTE shows in the row of the present `rx_state`. -/
theorem decodeEvent_rxByte {b : Byte} {st : RxState} {i : Instr}
    (hi : (EventVector.mk Event.rxByte.oneHot b 0 0 (List.replicate 22 0)).instr st .rxByte = some i)
    (more : List Byte) : decodeEvent st (encodeRxByte b ++ more) = .ok (i, more) :=
  decodeEvent_oneHot (List.length_replicate ..) hi more

/-- An event without operands shows in its row in every `rx_state`. -/
theorem decodeEvent_bare {e : Event} {st : RxState} {i : Instr}
    (hi : (EventVector.mk e.oneHot 0 0 0 (List.replicate 22 0)).instr st e = some i) (more : List Byte) :
    decodeEvent st (encodeBare e ++ more) = .ok (i, more) :=
  decodeEvent_oneHot (List.length_replicate ..) hi more

/-- Settles O1: a TYPE row through its type byte and transfer, an EVENT row through the vector with its event. -/
theorem decodeOfEncode : Obligations.DecodeOfEncode := by
  unfold Obligations.DecodeOfEncode
  intro i st more hwf hread
  by_cases htype : ∃ t, i.typeByte = some t
  case pos =>
    obtain ⟨t, ht⟩ := htype
    obtain ⟨x, hx⟩ := (typeByte_iff_transfer i).1 ⟨t, ht⟩
    rw [format_of_transfer hx, encode_of_isTypeRow ⟨ht, hx⟩, decode_encodeTransfer t (transfer_wf_of_wf hx hwf),
      instrOfType_of_isTypeRow ⟨ht, hx⟩ hwf]
  case neg =>
    cases i with
    | reset | tick | pktAccept | rxClose | txFail | txByte => exact decodeEvent_bare rfl more
    | rxByteType b | rxByteLength b | rxByteBody b =>
      obtain rfl := eq_of_beq hread
      exact decodeEvent_rxByte rfl more
    | txStart code plen payload => exact decodeEvent_oneHot (of_decide_eq_true hwf) rfl more
    | _ => exact absurd ⟨_, rfl⟩ htype

/-- Settles O3: each word runs through the decoder. -/
theorem tableWordsDecode : Obligations.TableWordsDecode := by
  unfold Obligations.TableWordsDecode
  decide

end Sys2Proof.Machine
end

section
/-! SUPPORT. A cycle with one event, and an input word that decodes to an instruction. -/

namespace Sys2Proof.Machine

theorem andThen_next_right (o : Result) : andThen o .next = o := by
  cases o <;> rfl

/-! ### One event -/

/-- An event that is not enabled stops by its name (U12). -/
theorem perform_of_not_enabled (v : EventVector) {e : Event} {s : State} (h : eventEnabled s e = false) :
    perform v e s = .fault (notEnabledFault e) := by
  cases e with
  | reset | tick => cases h
  | pktAccept => exact onRx_eq_fault.2 (rxAccept_of_not_complete (by simpa [eventEnabled, State.pktValid] using h))
  | rxByte => cases hs : s.rx.state <;> simp_all [eventEnabled, State.rxReady, perform, EventVector.instr]
  | rxClose =>
    refine onRx_eq_fault.2 (rxClose_of_not_ready ?_)
    cases hs : s.rx.state <;> simp_all [eventEnabled, State.rxReady]
  | txStart =>
    refine onTx_eq_fault.2 (txStart_of_send ?_)
    cases hs : s.tx.state <;> simp_all [eventEnabled, State.txqReady]
  | txFail =>
    refine onTx_eq_fault.2 (txFail_of_idle ?_)
    cases hs : s.tx.state <;> simp_all [eventEnabled, State.txValid]
  | txByte =>
    refine onTx_eq_fault.2 (txByte_of_idle ?_)
    cases hs : s.tx.state <;> simp_all [eventEnabled, State.txValid]

/-- A vector with one event performs it, or stops as it does. -/
theorem performVector_of_one_event {v : EventVector} {e : Event} (h : v.events = [e]) (s : State) :
    performVector v s = perform v e s := by
  rw [performVector, h]
  cases he : eventEnabled s e with
  | true => simp [he, performAll, andThen_next_right]
  | false => simp [he, perform_of_not_enabled v he]

/-- RX_BYTE takes the row of the present `rx_state` (R66, R110). -/
theorem perform_rxByte (v : EventVector) (s : State) : perform v .rxByte s = onRx (rxByte v.rxData) s := by
  cases hs : s.rx.state <;> simp [perform, EventVector.instr, notEnabledFault, onRx, rxByte, hs]

/-! ### Words -/

theorem decodeEvent_eq_ok {st : RxState} {bytes more : List Byte} {i : Instr}
    (h : decodeEvent st bytes = .ok (i, more)) :
    ∃ v e, decodeVector bytes = .ok (v, more) ∧ v.events = [e] ∧ v.instr st e = some i := by
  unfold decodeEvent at h
  split at h
  · cases h
  next v rest hv =>
    split at h
    · cases h
    next e he =>
      split at h
      next i' hi => cases h; exact ⟨v, e, hv, he, hi⟩
      · cases h
    · cases h

/-- A word that decodes to an instruction makes the block run it. -/
theorem runWord_of_decode {f : Format} {bytes more : List Byte} {s : State} {i : Instr}
    (h : decode f s.rx.state bytes = .ok (i, more)) : runWord f bytes s = exec i s := by
  cases f with
  | event =>
    obtain ⟨v, e, hv, he, hi⟩ := decodeEvent_eq_ok h
    simp only [runWord, hv]
    rw [performVector_of_one_event he, perform, hi]
  | request | packet => simp only [runWord, h]

theorem step_word {f : Format} {bytes : List Byte} {rest : List Input} {s : State} (hlegal : s.cfg.legal = true)
    (hinputs : s.inputs = .word f bytes :: rest) :
    step s = runWord f bytes { s.beginCycle with inputs := rest } := by
  rw [step_of_legal hlegal, runCycle, hinputs]
  rfl

/-- Settles O6: the rising edge leaves `rx_state` as it is, so the word decodes after it as before. -/
theorem stepRunsDecodedWord : Obligations.StepRunsDecodedWord := by
  unfold Obligations.StepRunsDecodedWord
  intro s f bytes more rest i hlegal hinputs hdecode
  exact (step_word hlegal hinputs).trans (runWord_of_decode hdecode)

end Sys2Proof.Machine
end

section
/-! SUPPORT. Packets from the device as bytes of the receive stream (R41, R69, R70): one that is dropped at its length
byte, and one given as RX_BYTE words, one a step. -/

namespace Sys2Proof.Machine

/-- A packet from the device is its bytes taken in order (R70; assumption 5). -/
theorem transfer_packet (t : Byte) {x : Transfer} (hx : x.format = .packet) (s : State) :
    transfer t x s = receiveBytes (encodeTransfer t x) s := by
  cases x with
  | send | sendOversize => cases hx
  | receive | receiveOversize => rfl

theorem exec_packet {t : Byte} {x : Transfer} {i : Instr} (h : IsTypeRow t x i) (hx : x.format = .packet) (s : State) :
    exec i s = receiveBytes (encodeTransfer t x) s := by
  obtain ⟨htype, htransfer⟩ := h
  rw [exec_transfer htype htransfer, transfer_packet t hx]

theorem receiveBytes_cons_of_ok {b : Byte} {s : State} {r : RxSide} (h : rxByte b s.cfg s.rx.clearPulse = .ok r)
    (bs : List Byte) :
    receiveBytes (b :: bs) s = receiveBytes bs { s with rx := r, tx := s.tx.clearPulse } := by
  have hfirst : onRx (rxByte b) s.beginCycle = .next { s with rx := r, tx := s.tx.clearPulse } :=
    onRx_eq_next.2 ⟨r, h, rfl⟩
  rw [receiveBytes_cons, hfirst, andThen_next]

/-! ### An illegal length byte -/

/-- The receive side after a type byte and an illegal length byte (R111, R112, R201, R209). -/
def RxSide.rejected (ty : Byte) (c : Config) (r : RxSide) : RxSide :=
  RxSide.drop .badLength { r with buf := r.buf.put 0 ty, timer := c.timeoutTicks }

theorem receiveBytes_illegal_length (ty : Byte) {len : Byte} {s : State} (hlen : s.cfg.maxData < len.toNat)
    (hs : s.rx.state = .awaitType) (tail : List Byte) :
    receiveBytes (ty :: len :: tail) s =
      receiveBytes tail { s with rx := s.rx.rejected ty s.cfg, tx := s.tx.clearPulse } := by
  have htype : rxByteType ty s.cfg s.rx.clearPulse = .ok _ := rxByteType_eq_ok.2 ⟨hs, rfl⟩
  rw [receiveBytes_cons_of_ok (rxByte_eq_ok.2 (.inl htype))]
  refine receiveBytes_cons_of_ok ?_ tail
  exact rxByte_eq_ok.2 (.inr (.inl (rxByteLength_eq_ok.2 ⟨rfl, .inl ⟨hlen, rfl⟩⟩)))

/-- Settles O42: both forms of the word begin with the type byte and the illegal length byte. -/
theorem packetWithIllegalLengthDropped : Obligations.PacketWithIllegalLengthDropped := by
  unfold Obligations.PacketWithIllegalLengthDropped
  intro i ty len data tail crc s htype htransfer hlen hs
  have hexec : exec i s = receiveBytes (ty :: len :: tail) s := by
    rcases htransfer with ⟨hx, rfl⟩ | ⟨hx, hdata, rfl⟩
    · exact exec_packet ⟨htype, hx⟩ rfl s
    · rw [exec_packet ⟨htype, hx⟩ rfl s, encodeTransfer, hdata, BitVec.ofNat_toNat, BitVec.setWidth_eq]
  rw [hexec, receiveBytes_illegal_length ty hlen hs]
  refine ⟨_, rfl, ?_, rfl, rfl, rfl, rfl, rfl, rfl, rfl, rfl, rfl⟩
  rintro rfl
  rfl

/-! ### RX_BYTE words -/

/-- An RX_BYTE word is the event RX_BYTE in every `rx_state`. -/
theorem runWord_rxByte (b : Byte) (s : State) : runWord .event (encodeRxByte b) s = onRx (rxByte b) s := by
  have hdecode : decodeVector (encodeRxByte b) = .ok (⟨Event.rxByte.oneHot, b, 0, 0, List.replicate 22 0⟩, []) :=
    decodeVector_append _ b 0 0 (List.length_replicate ..) []
  simp only [runWord, hdecode]
  rw [performVector_of_one_event (events_oneHot ..), perform_rxByte]

theorem run_succ (n : Nat) (s : State) : core.run (n + 1) s = andThen (step s) (core.run n) := by
  refine (Host.Core.run.eq_2 core s n).trans ?_
  change _ = andThen (core.step s) _
  cases core.step s <;> rfl

/-- Bytes given as RX_BYTE words, one a step, do what they do taken in order; the inputs after them are left. -/
theorem run_rxBytes (bs : List Byte) {s : State} (hlegal : s.cfg.legal = true) (rest : List Input) :
    core.run bs.length { s with inputs := (Directive.rx bs).inputs s.cfg ++ rest } =
      andThen (receiveBytes bs s) fun t => .next { t with inputs := rest } := by
  induction bs generalizing s with
  | nil => rfl
  | cons b bs ih =>
    have hstep : step { s with inputs := (Directive.rx (b :: bs)).inputs s.cfg ++ rest } =
        onRx (rxByte b) { s.beginCycle with inputs := (Directive.rx bs).inputs s.cfg ++ rest } :=
      (step_word (s := { s with inputs := _ :: _ }) hlegal rfl).trans (runWord_rxByte b _)
    rw [List.length_cons, run_succ, hstep, receiveBytes_cons, andThen_assoc]
    unfold onRx
    simp only [State.beginCycle_cfg, State.beginCycle_rx]
    cases rxByte b s.cfg s.rx.clearPulse with
    | ok r => exact ih (s := { s.beginCycle with rx := r }) hlegal
    | error e => rfl

/-- The length byte of a list that the format admits is its length. -/
theorem countByte_of_le {data : List Byte} (h : data.length ≤ formatMaxData) :
    countByte data = BitVec.ofNat 8 data.length := by
  rw [formatMaxData] at h
  rw [countByte, Nat.min_eq_left (by omega)]

/-- RXPKT lists the bytes of the packet with its right CRC (R70). -/
theorem rxpkt_inputs {c : Config} {ty : Byte} {data : List Byte} (h : data.length ≤ formatMaxData) :
    (Directive.rxpkt ty data).inputs c =
      (Directive.rx (encodeTransfer ty
        (.receive data (crc16 c (ty :: BitVec.ofNat 8 data.length :: data))))).inputs c := by
  simp only [Directive.inputs, countByte_of_le h]
  rfl

theorem exists_transfer_of_packet {i : Instr} (h : i.format = .packet) : ∃ x, i.transfer = some x := by
  cases i with
  | reset | tick | pktAccept | rxByteType | rxByteLength | rxByteBody | rxClose | txStart | txFail | txByte => cases h
  | _ => exact ⟨_, rfl⟩

/-- Settles O43: the packet is its bytes taken in order, and so are their RX_BYTE words. -/
theorem packetWordIsItsByteWords : Obligations.PacketWordIsItsByteWords := by
  unfold Obligations.PacketWordIsItsByteWords
  intro i s rest hformat hlegal
  obtain ⟨x, hx⟩ := exists_transfer_of_packet hformat
  obtain ⟨t, ht⟩ := (typeByte_iff_transfer i).2 ⟨x, hx⟩
  have hpacket : x.format = .packet := (format_of_transfer hx).symm.trans hformat
  have hrun := run_rxBytes (encodeTransfer t x) hlegal rest
  rw [← exec_packet ⟨ht, hx⟩ hpacket] at hrun
  rw [encode_of_isTypeRow ⟨ht, hx⟩]
  refine ⟨fun u hu => ?next, fun r hr => ?stop, fun ty data hwf hty hreceive => ?rxpkt⟩
  case next => rw [hrun, hu]; rfl
  case stop => rw [hrun, hr]; rfl
  case rxpkt =>
    obtain rfl : ty = t := Option.some.inj (hty.symm.trans ht)
    obtain rfl := Option.some.inj (hreceive.symm.trans hx)
    exact rxpkt_inputs (of_decide_eq_true (transfer_wf_of_wf hreceive hwf))

end Sys2Proof.Machine
end

section
/-! SUPPORT. The checksum unit (40_checksum.md): the accumulator as a fold, the shift register as an injective linear map,
and the check read as a comparison of halves and as a residue test. -/

namespace Sys2Proof.Machine

/-! ### The accumulator -/

@[simp] theorem crcRaw_nil (c : Config) : crcRaw c [] = c.crcInit := rfl

theorem crcRaw_append (c : Config) (s u : List Byte) :
    crcRaw c (s ++ u) = u.foldl (crcStep c) (crcRaw c s) :=
  List.foldl_append

/-! ### The check as a comparison -/

theorem halfOf_eq_iff {hi lo : Byte} {k : Half} : halfOf hi lo = k ↔ lo = crcLo k ∧ hi = crcHi k := by
  constructor
  · rintro rfl
    simp
  · rintro ⟨rfl, rfl⟩
    exact halfOf_hi_lo k

/-- On a sequence that ends in `lo, hi` the check compares `{hi, lo}` with the CRC of the rest (R93). -/
theorem stripAndVerify_append_pair (c : Config) (s : List Byte) (lo hi : Byte) :
    stripAndVerify c (s ++ [lo, hi]) = (s, decide (halfOf hi lo = crc16 c s)) := by
  have hlen : ¬ (s ++ [lo, hi]).length < 2 := by simp
  rw [stripAndVerify, if_neg hlen]
  simp [halfOf_eq_iff, Bool.beq_eq_decide_eq]

theorem stripAndVerify_of_short (c : Config) {s : List Byte} (h : s.length < 2) : stripAndVerify c s = ([], false) :=
  if_pos h

/-- A sequence of two bytes or more ends in a pair. -/
theorem exists_append_pair {s : List Byte} (h : 2 ≤ s.length) : ∃ d lo hi, s = d ++ [lo, hi] := by
  obtain ⟨lo, hi, hpair⟩ := List.length_eq_two.1 (show (s.drop (s.length - 2)).length = 2 by simp; omega)
  exact ⟨s.take (s.length - 2), lo, hi, by rw [← hpair, List.take_append_drop]⟩

/-! ### The shift register is linear -/

/-- What the bit shifted out XORs into the register (R90). -/
def crcFeedback (c : Config) (k : Half) : Half := if k.getLsbD 0 then c.crcPolyR else 0

theorem crcShift_eq_xor (c : Config) (k : Half) : crcShift c k = k >>> 1 ^^^ crcFeedback c k := by
  unfold crcShift crcFeedback
  split <;> simp

theorem crcShift_of_bit_clear (c : Config) {k : Half} (h : k.getLsbD 0 = false) : crcShift c k = k >>> 1 :=
  if_neg (ne_true_of_eq_false h)

theorem crcShift_xor (c : Config) (k₁ k₂ : Half) : crcShift c (k₁ ^^^ k₂) = crcShift c k₁ ^^^ crcShift c k₂ := by
  have hout : crcFeedback c (k₁ ^^^ k₂) = crcFeedback c k₁ ^^^ crcFeedback c k₂ := by
    unfold crcFeedback
    rw [BitVec.getLsbD_xor]
    cases k₁.getLsbD 0 <;> cases k₂.getLsbD 0 <;> simp
  simp only [crcShift_eq_xor, hout, BitVec.ushiftRight_xor_distrib]
  ac_rfl

theorem crcShifts_xor (c : Config) (n : Nat) (k₁ k₂ : Half) :
    crcShifts c n (k₁ ^^^ k₂) = crcShifts c n k₁ ^^^ crcShifts c n k₂ := by
  induction n generalizing k₁ k₂ with
  | zero => rfl
  | succ n ih => simp only [crcShifts_succ, crcShift_xor, ih]

theorem crcStep_xor (c : Config) (k₁ k₂ : Half) (b₁ b₂ : Byte) :
    crcStep c (k₁ ^^^ k₂) (b₁ ^^^ b₂) = crcStep c k₁ b₁ ^^^ crcStep c k₂ b₂ := by
  simp only [crcStep_eq, ← crcShifts_xor, BitVec.setWidth_xor]
  ac_rfl

/-! ### Two steps are sixteen shifts of one half -/

theorem crcShifts_add (c : Config) (m n : Nat) (k : Half) : crcShifts c (m + n) k = crcShifts c n (crcShifts c m k) := by
  induction m generalizing k with
  | zero => rw [Nat.zero_add, crcShifts_zero]
  | succ m ih => rw [Nat.succ_add, crcShifts_succ, crcShifts_succ, ih]

/-- While the low bits are zero the polynomial does not enter: the shifts only move the bits down. -/
theorem crcShifts_of_low_zero (c : Config) (n : Nat) {k : Half} (h : ∀ i < n, k.getLsbD i = false) :
    crcShifts c n k = k >>> n := by
  induction n generalizing k with
  | zero => simp
  | succ n ih =>
    rw [crcShifts_succ, crcShift_of_bit_clear c (h 0 (by omega)), ih fun i hi => ?_, ← BitVec.shiftRight_add,
      Nat.add_comm]
    rw [BitVec.getLsbD_ushiftRight, h _ (by omega)]

theorem halfOf_eq_xor (hi lo : Byte) : halfOf hi lo = lo.setWidth 16 ^^^ halfOf hi 0 := by
  apply BitVec.eq_of_getLsbD_eq
  intro i hlt
  rw [BitVec.getLsbD_xor, halfOf_getLsbD, halfOf_getLsbD, BitVec.getLsbD_setWidth]
  by_cases h : i < 8
  · simp [h, hlt]
  · simp [h, BitVec.getLsbD_of_ge lo i (by omega)]

/-- Eight shifts bring the high byte down unchanged. -/
theorem crcShifts_halfOf_zero (c : Config) (hi : Byte) : crcShifts c 8 (halfOf hi 0) = hi.setWidth 16 := by
  rw [crcShifts_of_low_zero c 8 fun i h => by simp [halfOf_getLsbD, h]]
  apply BitVec.eq_of_getLsbD_eq
  intro i h
  simp [halfOf_getLsbD, h]

theorem crcStep_crcStep (c : Config) (k : Half) (lo hi : Byte) :
    crcStep c (crcStep c k lo) hi = crcShifts c 16 (k ^^^ halfOf hi lo) := by
  rw [crcShifts_add c 8 8, halfOf_eq_xor, ← BitVec.xor_assoc, crcShifts_xor c 8 _ (halfOf hi 0), crcShifts_halfOf_zero]
  rfl

theorem crcRaw_append_pair (c : Config) (s : List Byte) (lo hi : Byte) :
    crcRaw c (s ++ [lo, hi]) = crcShifts c 16 (crcRaw c s ^^^ halfOf hi lo) :=
  (crcRaw_append c s [lo, hi]).trans (crcStep_crcStep c _ lo hi)

theorem xor_eq_iff_eq_xor {k x y : Half} : k ^^^ x = y ↔ x = k ^^^ y := by
  rw [← BitVec.xor_right_inj k, ← BitVec.xor_assoc, BitVec.xor_self, BitVec.zero_xor]

/-- A sequence with its CRC leaves a residue that does not depend on the sequence (R97). -/
theorem crcRaw_appendCrc (c : Config) (s : List Byte) : crcRaw c (appendCrc c s) = crcShifts c 16 c.crcXorOut := by
  rw [appendCrc, crcRaw_append_pair, halfOf_hi_lo, crc16, xor_eq_iff_eq_xor.2 rfl]

/-! ### Injectivity, which the top bit of the reversed polynomial gives -/

section

variable {c : Config} (hpoly : c.crcPolyR.msb = true)
include hpoly

/-- The bit shifted out shows as bit 15 of the result, so nothing but zero is shifted to zero. -/
theorem eq_zero_of_crcShift {k : Half} (h : crcShift c k = 0) : k = 0 := by
  have hout : k.getLsbD 0 = false := by
    by_contra hset
    rw [crcShift_eq_xor, crcFeedback, if_pos (eq_true_of_ne_false hset)] at h
    simpa [hpoly] using congrArg BitVec.msb h
  rw [crcShift_of_bit_clear c hout] at h
  apply BitVec.eq_of_getLsbD_eq
  intro i _
  cases i with
  | zero => simpa using hout
  | succ i => simpa [Nat.add_comm] using congrArg (BitVec.getLsbD · i) h

theorem crcShift_injective : Function.Injective (crcShift c) := by
  intro k₁ k₂ h
  rw [← BitVec.xor_eq_zero_iff]
  exact eq_zero_of_crcShift hpoly ((crcShift_xor c k₁ k₂).trans (BitVec.xor_eq_zero_iff.2 h))

theorem crcShifts_injective (n : Nat) : Function.Injective (crcShifts c n) := by
  induction n with
  | zero => exact Function.injective_id
  | succ n ih => exact ih.comp (crcShift_injective hpoly)

theorem crcStep_injective (b : Byte) : Function.Injective fun k => crcStep c k b :=
  (crcShifts_injective hpoly 8).comp fun _ _ => (BitVec.xor_left_inj (b.setWidth 16)).1

theorem crcStep_injective_byte (k : Half) : Function.Injective (crcStep c k) := by
  intro b₁ b₂ h
  have hwide : b₁.setWidth 16 = b₂.setWidth 16 := (BitVec.xor_right_inj k).1 (crcShifts_injective hpoly 8 h)
  simpa using congrArg (BitVec.setWidth 8) hwide

theorem foldl_crcStep_injective (u : List Byte) : Function.Injective fun k => u.foldl (crcStep c) k := by
  induction u with
  | nil => exact Function.injective_id
  | cons b u ih => exact ih.comp (crcStep_injective hpoly b)

/-- One byte changed, whatever stands around it, changes the accumulator. -/
theorem crcRaw_ne_of_byte_ne {b b' : Byte} (hb : b ≠ b') (p q : List Byte) :
    crcRaw c (p ++ b :: q) ≠ crcRaw c (p ++ b' :: q) := by
  simp only [crcRaw_append, List.foldl_cons]
  exact fun h => hb (crcStep_injective_byte hpoly _ (foldl_crcStep_injective hpoly q h))

/-- The residue test agrees with the comparison of the CRC bytes (R97), whatever the final XOR. -/
theorem stripAndVerify_iff_residue {s : List Byte} (h : 2 ≤ s.length) :
    (stripAndVerify c s).2 = true ↔ crcRaw c s = crcShifts c 16 c.crcXorOut := by
  obtain ⟨d, lo, hi, rfl⟩ := exists_append_pair h
  rw [stripAndVerify_append_pair, crcRaw_append_pair, (crcShifts_injective hpoly 16).eq_iff, decide_eq_true_iff, xor_eq_iff_eq_xor,
    crc16]

end

/-! ### One bit inverted -/

@[simp] theorem flipBit_length (s : List Byte) (k : Nat) : (flipBit s k).length = s.length :=
  List.length_modify ..

/-- Inverting a bit of a sequence changes one of its bytes. -/
theorem flipBit_changes_byte {s : List Byte} {k : Nat} (h : k < 8 * s.length) :
    ∃ p b b' q, b' ≠ b ∧ s = p ++ b :: q ∧ flipBit s k = p ++ b' :: q := by
  have hk : k / 8 < s.length := by omega
  refine ⟨s.take (k / 8), s[k / 8], s[k / 8] ^^^ BitVec.twoPow 8 (k % 8), s.drop (k / 8 + 1), fun heq => ?ne, ?split,
    List.modify_eq_take_cons_drop hk⟩
  case ne =>
    have hbit := congrArg (BitVec.getLsbD · (k % 8)) heq
    simp [show k % 8 < 8 by omega] at hbit
  case split => rw [← List.drop_eq_getElem_cons hk, List.take_append_drop]

/-! ### The polynomial of R5 -/

theorem polynomial_top_bit {c : Config} (h : c.crcPolyR = 0x8408) : c.crcPolyR.msb = true := by
  rw [h]
  rfl

theorem crcShifts_congr {c c' : Config} (h : c.crcPolyR = c'.crcPolyR) (n : Nat) (k : Half) :
    crcShifts c n k = crcShifts c' n k := by
  induction n generalizing k with
  | zero => rfl
  | succ n ih => rw [crcShifts_succ, crcShifts_succ, ih, crcShift, crcShift, h]

/-- The residue under the polynomial and the final XOR of R5. -/
theorem residue_eq {c : Config} (hpoly : c.crcPolyR = 0x8408) (hxor : c.crcXorOut = 0xFFFF) :
    crcShifts c 16 c.crcXorOut = 0xF0B8 := by
  rw [hxor, crcShifts_congr (c' := Config.default) hpoly]
  decide +kernel

end Sys2Proof.Machine
end

section
/-! PROOFS. The checksum unit (40_checksum.md R93 to R98). -/

namespace Sys2Proof.Machine

/-- Settles O44: the two bytes appended are the CRC that the check compares. -/
theorem checksumRoundTrip : Obligations.ChecksumRoundTrip := by
  unfold Obligations.ChecksumRoundTrip
  intro c s
  rw [appendCrc, stripAndVerify_append_pair, halfOf_hi_lo, decide_eq_true rfl]

/-- Settles O45: comparing the half compares its two bytes, low byte first. -/
theorem verifyFailsClosed : Obligations.VerifyFailsClosed := by
  unfold Obligations.VerifyFailsClosed
  intro c s
  refine ⟨stripAndVerify_of_short c, fun lo hi => ?_⟩
  simp only [stripAndVerify_append_pair, halfOf_eq_iff, crcLo, crcHi]

/-- Settles O49: the accumulator is a left fold. -/
theorem runningChecksumAgrees : Obligations.RunningChecksumAgrees := by
  unfold Obligations.RunningChecksumAgrees
  intro c
  refine ⟨crcRaw_nil c, fun s b => crcRaw_append c s [b], fun s lo hi => ?_⟩
  rw [stripAndVerify_append_pair, decide_eq_true_iff, crc16]

/-- Settles O48: linear because each shift is, bijective because each shift is injective and the accumulators are finite. -/
theorem crcStepLinearAndBijective : Obligations.CrcStepLinearAndBijective := by
  unfold Obligations.CrcStepLinearAndBijective
  intro c hpoly
  exact ⟨crcStep_xor c, fun b => Finite.injective_iff_bijective.1 (crcStep_injective (polynomial_top_bit hpoly) b)⟩

/-- Settles O47: the CRC bytes cancel the accumulator, so sixteen shifts of the final XOR are left. -/
theorem residueIsConstant : Obligations.ResidueIsConstant := by
  unfold Obligations.ResidueIsConstant
  intro c s hpoly hxor
  have hres := residue_eq hpoly hxor
  have hraw : crcRaw c (appendCrc c s) = 0xF0B8 := (crcRaw_appendCrc c s).trans hres
  refine ⟨hraw, ?crc16, fun hlen => ?test⟩
  case crc16 => rw [crc16, hraw, hxor]; rfl
  case test => rw [stripAndVerify_iff_residue (polynomial_top_bit hpoly) hlen, hres]

/-- Settles O46: the inverted bit changes one byte, so the accumulator, so the residue. -/
theorem singleBitErrorsDetected : Obligations.SingleBitErrorsDetected := by
  unfold Obligations.SingleBitErrorsDetected
  intro c s k hpoly hk
  have htop := polynomial_top_bit hpoly
  obtain ⟨p, b, b', q, hne, hsplit, hflip⟩ := flipBit_changes_byte hk
  have hlen : 2 ≤ (flipBit (appendCrc c s) k).length := by simp
  rw [← Bool.not_eq_true, stripAndVerify_iff_residue htop hlen, ← crcRaw_appendCrc c s, hflip, hsplit]
  exact crcRaw_ne_of_byte_ne htop hne p q

end Sys2Proof.Machine
end

section
/-! SUPPORT. The receive-side events one by one (41_rx_framer.md R110 to R118): in which `rx_state` each is enabled, and
what it leaves. -/

namespace Sys2Proof.Machine

/-! ### Enabled events -/

theorem onRx_enabled_iff {op : Config → RxSide → Except Fault RxSide} {s : State} :
    (∃ t, onRx op s = .next t) ↔ ∃ r, op s.cfg s.rx = .ok r := by
  constructor
  · rintro ⟨t, h⟩
    obtain ⟨r, hr, -⟩ := onRx_eq_next.1 h
    exact ⟨r, hr⟩
  · rintro ⟨r, hr⟩
    exact ⟨_, onRx_eq_next.2 ⟨r, hr, rfl⟩⟩

theorem RxSide.windowRuns_eq_true {r : RxSide} :
    r.windowRuns = true ↔ r.state = .awaitLength ∨ r.state = .awaitBody := by
  simp [RxSide.windowRuns]

theorem RxSide.windowRuns_eq_false {r : RxSide} :
    r.windowRuns = false ↔ r.state = .awaitType ∨ r.state = .complete ∨ r.state = .terminated := by
  cases h : r.state <;> simp [RxSide.windowRuns, h]

/-- Where no window runs a TICK does nothing (R114). -/
theorem exec_tick_idle {s : State} (h : s.rx.windowRuns = false) : exec .tick s = .next s :=
  onRx_eq_next.2 ⟨s.rx, rxTick_eq_ok.2 (.inr (.inr ⟨h, rfl⟩)), rfl⟩

/-- The receive side with another value in `rx_timer`. -/
def RxSide.withTimer (n : Nat) (r : RxSide) : RxSide := { r with timer := n }

/-- The state with another value in `rx_timer`. -/
def State.withTimer (n : Nat) (s : State) : State := { s with rx := s.rx.withTimer n }

@[simp] theorem State.withTimer_timer (n : Nat) (s : State) : (s.withTimer n).rx.timer = n := rfl
@[simp] theorem State.withTimer_withTimer (m n : Nat) (s : State) : (s.withTimer n).withTimer m = s.withTimer m := rfl
@[simp] theorem RxSide.withTimer_state (n : Nat) (r : RxSide) : (r.withTimer n).state = r.state := rfl
@[simp] theorem RxSide.withTimer_cnt (n : Nat) (r : RxSide) : (r.withTimer n).cnt = r.cnt := rfl

/-- Before its last tick a running window only counts (R114). -/
theorem exec_tick_counts {s : State} (h : s.rx.windowRuns = true) (ht : 1 < s.rx.timer) :
    exec .tick s = .next (s.withTimer (s.rx.timer - 1)) :=
  onRx_eq_next.2 ⟨_, rxTick_eq_ok.2 (.inr (.inl ⟨h, ht, rfl⟩)), rfl⟩

/-- The last tick of a window raises `Timeout` (R114, R203). -/
theorem exec_tick_expires {s : State} (h : s.rx.windowRuns = true) (ht : s.rx.timer ≤ 1) :
    exec .tick s = .next { s with rx := s.rx.drop .timeout } :=
  onRx_eq_next.2 ⟨_, rxTick_eq_ok.2 (.inl ⟨h, ht, rfl⟩), rfl⟩

theorem rxByteType_enabled_iff {b : Byte} {c : Config} {r : RxSide} :
    (∃ r', rxByteType b c r = .ok r') ↔ r.state = .awaitType := by
  simp [rxByteType_eq_ok]

theorem rxByteLength_enabled_iff {b : Byte} {c : Config} {r : RxSide} :
    (∃ r', rxByteLength b c r = .ok r') ↔ r.state = .awaitLength := by
  constructor
  · rintro ⟨r', h⟩
    exact (rxByteLength_eq_ok.1 h).1
  · intro hs
    rcases lt_or_ge c.maxData b.toNat with hb | hb
    · exact ⟨_, rxByteLength_eq_ok.2 ⟨hs, .inl ⟨hb, rfl⟩⟩⟩
    · exact ⟨_, rxByteLength_eq_ok.2 ⟨hs, .inr ⟨hb, rfl⟩⟩⟩

/-- The index at which a body byte is stored exists, by R29 (a) and (b). -/
theorem rxByteBody_enabled_iff {b : Byte} {c : Config} {r : RxSide} (h : r.Inv c) (hc : c.legal = true) :
    (∃ r', rxByteBody b c r = .ok r') ↔ r.state = .awaitBody := by
  constructor
  · rintro ⟨r', hr⟩
    exact (rxByteBody_eq_ok.1 hr).1
  · intro hs
    obtain ⟨-, hlt⟩ := h.cnt_lt_of_awaitBody hc hs
    exact ⟨_, rxByteBody_eq_ok.2 ⟨hs, hlt, rfl⟩⟩

/-- Settles O16: each row of R110 by the operation of its event. -/
theorem receiveEventsEnabledByState : Obligations.ReceiveEventsEnabledByState := by
  unfold Obligations.ReceiveEventsEnabledByState
  rintro s b ⟨hlegal, hrx, -⟩
  refine ⟨⟨onRx_enabled_iff.2 (rxTick_total s.cfg s.rx), fun hs => exec_tick_idle (RxSide.windowRuns_eq_false.2 hs)⟩,
    onRx_enabled_iff.trans ?accept, onRx_enabled_iff.trans ?close, onRx_enabled_iff.trans rxByteType_enabled_iff,
    onRx_enabled_iff.trans rxByteLength_enabled_iff, onRx_enabled_iff.trans (rxByteBody_enabled_iff hrx hlegal)⟩
  case accept => simp [rxAccept_eq_ok]
  case close => simp [rxClose_eq_ok]

/-! ### `COMPLETE` and `TERMINATED` -/

/-- A request is an operation of the transmit side (R69, R160). -/
theorem exec_request {i : Instr} {x : Transfer} (hi : i.transfer = some x) (hx : x.format = .request) :
    ∃ op, exec i = onTx op := by
  obtain ⟨t, -, hexec⟩ := exec_eq_transfer hi
  cases x with
  | send | sendOversize => exact ⟨_, funext hexec⟩
  | receive | receiveOversize => cases hx

theorem transfer_format_cases (x : Transfer) : x.format = .request ∨ x.format = .packet := by
  cases x with
  | send | sendOversize => exact .inl rfl
  | receive | receiveOversize => exact .inr rfl

/-- The rows of the opcode table: RESET, the events of the two agents, and the TYPE rows in their two directions. -/
theorem instr_kinds (i : Instr) :
    i = .reset ∨ isReceiveEvent i = true ∨ isTransmitEvent i = true ∨ ∃ x, i.transfer = some x := by
  cases i <;> simp [isReceiveEvent, isTransmitEvent, Instr.transfer]

section

variable {i : Instr} {s t : State} (hs : s.rx.state = .complete ∨ s.rx.state = .terminated) (h : exec i s = .next t)
include hs h

/-- The receive-side events that run while no byte can be taken (R110): TICK, without effect, and PKT_ACCEPT. -/
theorem receiveEvent_of_not_ready (hi : isReceiveEvent i = true) :
    i = .tick ∧ t = s ∨ i = .pktAccept ∧ s.rx.state = .complete := by
  have hstate : s.rx.state ≠ .awaitType ∧ s.rx.state ≠ .awaitLength ∧ s.rx.state ≠ .awaitBody := by
    rcases hs with hs | hs <;> simp [hs]
  obtain ⟨htype, hlength, hbody⟩ := hstate
  cases i with
  | tick =>
    rw [exec_tick_idle (RxSide.windowRuns_eq_false.2 (.inr hs))] at h
    cases h
    exact .inl ⟨rfl, rfl⟩
  | pktAccept =>
    obtain ⟨r, hr, -⟩ := onRx_eq_next.1 h
    exact .inr ⟨rfl, (rxAccept_eq_ok.1 hr).1⟩
  | rxByteType b => cases h.symm.trans (onRx_eq_fault.2 (rxByteType_of_not_awaitType htype))
  | rxByteLength b => cases h.symm.trans (onRx_eq_fault.2 (rxByteLength_of_not_awaitLength hlength))
  | rxByteBody b => cases h.symm.trans (onRx_eq_fault.2 (rxByteBody_of_not_awaitBody hbody))
  | rxClose => cases h.symm.trans (onRx_eq_fault.2 (rxClose_of_not_ready hs))
  | _ => cases hi

/-- What else runs there, but for RESET, is an operation of the transmit side: a packet from the device stops. -/
theorem rx_frame_of_not_ready (hi : isReceiveEvent i = false) (hreset : i ≠ .reset) : t.rx = s.rx ∧ t.cfg = s.cfg := by
  rcases instr_kinds i with rfl | hi' | hi' | ⟨x, hx⟩
  · exact absurd rfl hreset
  · rw [hi] at hi'
    cases hi'
  · obtain ⟨op, hop⟩ := exec_transmitEvent hi'
    exact onTx_frame (hop ▸ h)
  · rcases transfer_format_cases x with hf | hf
    · obtain ⟨op, hop⟩ := exec_request hx hf
      exact onTx_frame (hop ▸ h)
    · rw [exec_packet_of_not_ready hx hf hs] at h
      cases h

end

/-- Settles O18: TICK has no effect, and what else runs leaves the receive side, which the packet outputs show. -/
theorem completeHoldsThePacket : Obligations.CompleteHoldsThePacket := by
  unfold Obligations.CompleteHoldsThePacket
  intro i s t hs hreset haccept h
  cases hi : isReceiveEvent i
  · obtain ⟨hrx, hcfg⟩ := rx_frame_of_not_ready (.inl hs) h hi hreset
    refine ⟨⟨hrx, ?out⟩, nofun⟩
    case out => rw [State.pktOut, State.pktOut, State.pktValid, State.pktValid, hrx, hcfg]
  · obtain ⟨rfl, rfl⟩ | ⟨rfl, -⟩ := receiveEvent_of_not_ready (.inl hs) h hi
    · exact ⟨⟨rfl, rfl⟩, fun _ => rfl⟩
    · exact absurd rfl haccept

/-- Settles O19: as in `COMPLETE`, but there is no packet to accept. -/
theorem terminatedIsFinal : Obligations.TerminatedIsFinal := by
  unfold Obligations.TerminatedIsFinal
  intro i s t hs h
  cases hi : isReceiveEvent i
  · refine ⟨nofun, or_iff_not_imp_left.2 fun hreset => ?frame⟩
    case frame => exact (rx_frame_of_not_ready (.inr hs) h hi hreset).1
  · obtain ⟨rfl, rfl⟩ | ⟨-, hcomplete⟩ := receiveEvent_of_not_ready (.inr hs) h hi
    · exact ⟨fun _ => ⟨rfl, rfl⟩, .inr rfl⟩
    · rw [hs] at hcomplete
      cases hcomplete

end Sys2Proof.Machine
end

section
/-! SUPPORT. The effect of each receive-side event with its frame (R111 to R116), the transition table of R119, and the
outputs of one event (R122). -/

namespace Sys2Proof.Machine

/-! ### The effect of each event -/

/-- Settles O21: the byte goes to `rx_buf[0]`, which is then all that is held. -/
theorem typeByteAccepted : Obligations.TypeByteAccepted := by
  unfold Obligations.TypeByteAccepted
  intro b s hs
  refine ⟨_, onRx_eq_next.2 ⟨_, rxByteType_eq_ok.2 ⟨hs, rfl⟩, rfl⟩, ?held, rfl, rfl, rfl, ?others, rfl, rfl, rfl, rfl, rfl,
    rfl⟩
  case held => exact Buffer.slice_put s.rx.buf b (n := 0) (by decide)
  case others => exact fun k hk => Buffer.byte_put_other _ _ hk.symm

/-- Settles O22: the two arms of R112. -/
theorem lengthByteAcceptedOrRejected : Obligations.LengthByteAcceptedOrRejected := by
  unfold Obligations.LengthByteAcceptedOrRejected
  intro b s hs
  rcases lt_or_ge s.cfg.maxData b.toNat with hb | hb
  · refine ⟨_, onRx_eq_next.2 ⟨_, rxByteLength_eq_ok.2 ⟨hs, .inl ⟨hb, rfl⟩⟩, rfl⟩, fun hb' => absurd hb' hb.not_ge,
      fun _ => ⟨rfl, rfl, rfl, rfl, rfl, rfl⟩, rfl, rfl, rfl, rfl⟩
  · refine ⟨_, onRx_eq_next.2 ⟨_, rxByteLength_eq_ok.2 ⟨hs, .inr ⟨hb, rfl⟩⟩, rfl⟩,
      fun _ => ⟨?stored, rfl, rfl, ?others, rfl, rfl, rfl⟩, fun hb' => absurd hb' hb.not_gt, rfl, rfl, rfl, rfl⟩
    case stored => exact Buffer.byte_put_same _ _ (by decide)
    case others => exact fun k hk => Buffer.byte_put_other _ _ hk.symm

/-- While a body is awaited the length byte is not overwritten: bytes are stored past it (R29 (a)). -/
theorem RxSide.store_byte_one {b : Byte} {r : RxSide} (h : 2 ≤ r.cnt.toNat) : (r.store b).buf.byte 1 = r.buf.byte 1 :=
  Buffer.byte_put_other _ _ (by omega)

/-- A body byte before the last is stored and no more (R113). -/
theorem rxByteBody_more {b : Byte} {c : Config} {r : RxSide} (hs : r.state = .awaitBody) (hlow : 2 ≤ r.cnt.toNat)
    (hlt : r.cnt.toNat < 26) (hmore : r.cnt.toNat + 1 < (r.buf.byte 1).toNat + 4) :
    rxByteBody b c r = .ok (r.store b) := by
  refine rxByteBody_eq_ok.2 ⟨hs, hlt, ?_⟩
  rw [RxSide.judge, r.store_cnt_toNat b hlt, RxSide.store_byte_one hlow, if_neg (by omega)]

/-- The last body byte is stored and the packet judged by the bytes then held (R113). -/
theorem rxByteBody_last {b : Byte} {c : Config} {r : RxSide} (hs : r.state = .awaitBody) (hlow : 2 ≤ r.cnt.toNat)
    (hlt : r.cnt.toNat < 26) (hlast : r.cnt.toNat + 1 = (r.buf.byte 1).toNat + 4) :
    rxByteBody b c r = .ok (if (stripAndVerify c (r.held ++ [b])).2 then { r.store b with state := .complete }
      else (r.store b).drop .badCrc) := by
  refine rxByteBody_eq_ok.2 ⟨hs, hlt, ?_⟩
  rw [RxSide.judge, r.store_cnt_toNat b hlt, RxSide.store_byte_one hlow, if_pos hlast, RxSide.held_store b r hlt]

/-- Settles O23: the three cases of R113. -/
theorem bodyByteStoredAndJudged : Obligations.BodyByteStoredAndJudged := by
  unfold Obligations.BodyByteStoredAndJudged
  rintro b s ⟨hlegal, hrx, -⟩ hs
  obtain ⟨hlow, hlt⟩ := hrx.cnt_lt_of_awaitBody hlegal hs
  have hsame : (s.rx.store b).buf.byte s.rx.cnt.toNat = b := Buffer.byte_put_same _ _ hlt
  have hother (k : Nat) (hk : k ≠ s.rx.cnt.toNat) : (s.rx.store b).buf.byte k = s.rx.buf.byte k :=
    Buffer.byte_put_other _ _ hk.symm
  have hheld := s.rx.held_store b hlt
  have hcnt := s.rx.store_cnt_toNat b hlt
  obtain ⟨⟨-, -, hbody, -, -⟩, -⟩ := hrx
  obtain ⟨-, hhigh⟩ := hbody hs
  rcases lt_or_eq_of_le (show s.rx.cnt.toNat + 1 ≤ (s.rx.buf.byte 1).toNat + 4 by omega) with hmore | hlast
  · refine ⟨_, onRx_eq_next.2 ⟨_, rxByteBody_more hs hlow hlt hmore, rfl⟩, hsame, hother,
      fun _ => ⟨hs, hheld, hcnt, rfl, rfl, rfl⟩, fun hlast => absurd hlast hmore.ne, rfl, rfl, rfl, rfl⟩
  · have hop := rxByteBody_last (c := s.cfg) (b := b) hs hlow hlt hlast
    cases hv : (stripAndVerify s.cfg (s.rx.held ++ [b])).2 <;> simp only [hv, if_true, if_false, Bool.false_eq_true] at hop
    · refine ⟨_, onRx_eq_next.2 ⟨_, hop, rfl⟩, hsame, hother, fun hmore => absurd hlast hmore.ne,
        fun _ => ⟨nofun, fun _ => ⟨rfl, rfl, rfl, rfl, rfl⟩⟩, rfl, rfl, rfl, rfl⟩
    · refine ⟨_, onRx_eq_next.2 ⟨_, hop, rfl⟩, hsame, hother, fun hmore => absurd hlast hmore.ne,
        fun _ => ⟨fun _ => ⟨rfl, hheld, hcnt, rfl, rfl, rfl⟩, nofun⟩, rfl, rfl, rfl, rfl⟩

/-- Settles O24: TICK counts, expires the window, or finds none. -/
theorem tickCountsOrExpires : Obligations.TickCountsOrExpires := by
  unfold Obligations.TickCountsOrExpires
  intro s
  simp only [← RxSide.windowRuns_eq_true, ← RxSide.windowRuns_eq_false]
  cases hw : s.rx.windowRuns
  · exact ⟨s, exec_tick_idle hw, nofun, fun _ => rfl, rfl, rfl, rfl, rfl⟩
  · rcases lt_or_ge 1 s.rx.timer with ht | ht
    · exact ⟨_, exec_tick_counts hw ht,
        fun _ => ⟨fun _ => ⟨rfl, rfl, rfl, rfl, rfl, rfl⟩, fun ht' => absurd ht ht'.not_gt⟩, nofun, rfl, rfl, rfl, rfl⟩
    · exact ⟨_, exec_tick_expires hw ht,
        fun _ => ⟨fun ht' => absurd ht' ht.not_gt, fun _ => ⟨rfl, rfl, rfl, rfl, rfl, rfl⟩⟩, nofun, rfl, rfl, rfl, rfl⟩

theorem Buffer.take_slice (buf : Buffer) {m n : Nat} (h : m ≤ n) : (buf.slice 0 n).take m = buf.slice 0 m := by
  simp [Buffer.slice, List.take_take, h]

section

variable {c : Config} {r : RxSide} (hfit : (r.buf.byte 1).toNat ≤ 22)
include hfit

/-- The packet shown is the buffer up to the CRC bytes (R61, R115). -/
theorem RxSide.packet_bytes :
    [(r.packet c).type, r.buf.byte 1] ++ (r.packet c).data = r.buf.slice 0 ((r.buf.byte 1).toNat + 2) := by
  rw [Buffer.slice_eq_cons _ (by omega) (by omega), Buffer.slice_eq_cons _ (by omega) (by omega), RxSide.packet,
    Nat.add_comm 2]
  rfl

theorem RxSide.packet_len_toNat : (r.packet c).len.toNat = (r.buf.byte 1).toNat := by
  rw [RxSide.packet, BitVec.toNat_setWidth, Nat.mod_eq_of_lt (by omega)]

theorem RxSide.packet_data_length : (r.packet c).data.length = (r.buf.byte 1).toNat := by
  rw [RxSide.packet, Buffer.slice_length _ _ _ (by omega), Nat.add_sub_cancel_left]

end

/-- Settles O25: in `COMPLETE` the length byte counts the data bytes that are held. -/
theorem acceptDeliversThePacket : Obligations.AcceptDeliversThePacket := by
  unfold Obligations.AcceptDeliversThePacket
  rintro s ⟨hlegal, ⟨⟨-, -, -, hcomplete, -⟩, hlen, -⟩, -⟩ hs
  obtain ⟨hmax, -⟩ := (Config.legal_iff s.cfg).1 hlegal
  have hcnt := hcomplete hs
  have hfit : (s.rx.buf.byte 1).toNat ≤ 22 := (hlen (.inr hs)).trans hmax
  have hpacket := RxSide.packet_len_toNat (c := s.cfg) hfit
  refine ⟨_, _, onRx_eq_next.2 ⟨_, rxAccept_eq_ok.2 ⟨hs, rfl⟩, rfl⟩, rfl, ?bytes, hpacket, ?count, beq_iff_eq, rfl, rfl, rfl,
    rfl, rfl, rfl, rfl, rfl, rfl⟩
  case bytes => rw [RxSide.packet_bytes hfit, RxSide.held, hcnt, Buffer.take_slice _ (by omega)]; rfl
  case count => rw [RxSide.packet_data_length hfit, hpacket]

/-- Settles O26: RX_CLOSE changes `rx_state` and `rx_cnt` only. -/
theorem closeTerminatesSilently : Obligations.CloseTerminatesSilently := by
  unfold Obligations.CloseTerminatesSilently
  intro s hs
  exact ⟨_, onRx_eq_next.2 ⟨_, rxClose_eq_ok.2 ⟨hs, rfl⟩, rfl⟩, rfl, rfl, rfl, rfl, rfl, rfl, rfl, rfl, rfl, rfl, rfl⟩

/-! ### The transition table -/

/-- A move without output. -/
theorem moves_of_same_actions {s t : State} (h : t.rx.actions = s.rx.actions) : moves s t t.rx.state t.rx.cnt.toNat [] :=
  ⟨rfl, rfl, by rw [h, List.append_nil]⟩

/-- TICK stands in every `rx_state`: counting or expiring where a window runs, elsewhere without effect. -/
theorem transitionTable_tick {s t : State} (hinv : s.rx.Inv s.cfg) (h : exec .tick s = .next t) :
    transitionTable s .tick t := by
  obtain ⟨⟨htype, hlength, -, -, hterminated⟩, -⟩ := hinv
  obtain ⟨r, hr, rfl⟩ := onRx_eq_next.1 h
  rcases rxTick_eq_ok.1 hr with ⟨hw, ht, rfl⟩ | ⟨hw, ht, rfl⟩ | ⟨hw, rfl⟩
  · rcases RxSide.windowRuns_eq_true.1 hw with hs | hs <;> simp only [transitionTable, hs, if_neg ht.not_gt] <;>
      exact ⟨rfl, rfl, rfl⟩
  · rcases RxSide.windowRuns_eq_true.1 hw with hs | hs <;> simp [transitionTable, moves, hs, ht, hlength]
  · rcases RxSide.windowRuns_eq_false.1 hw with hs | hs | hs <;> simp [transitionTable, moves, hs, htype, hterminated]

theorem transitionTable_rxByteLength {b : Byte} {s t : State} (h : exec (.rxByteLength b) s = .next t) :
    transitionTable s (.rxByteLength b) t := by
  obtain ⟨r, hr, rfl⟩ := onRx_eq_next.1 h
  obtain ⟨hs, ⟨hb, rfl⟩ | ⟨hb, rfl⟩⟩ := rxByteLength_eq_ok.1 hr
  · simp only [transitionTable, hs, if_neg hb.not_ge]
    exact ⟨rfl, rfl, rfl⟩
  · simp only [transitionTable, hs, if_pos hb]
    exact moves_of_same_actions rfl

/-- A body byte is stored; the last one is judged by the bytes then held. -/
theorem transitionTable_rxByteBody {b : Byte} {s t : State} (hinv : s.rx.Inv s.cfg)
    (h : exec (.rxByteBody b) s = .next t) : transitionTable s (.rxByteBody b) t := by
  obtain ⟨r, hr, rfl⟩ := onRx_eq_next.1 h
  obtain ⟨hs, hlt, -⟩ := rxByteBody_eq_ok.1 hr
  obtain ⟨⟨-, -, hbody, -, -⟩, -⟩ := hinv
  obtain ⟨hlow, hhigh⟩ := hbody hs
  have hcnt := s.rx.store_cnt_toNat b hlt
  simp only [transitionTable, hs]
  rcases lt_or_eq_of_le (show s.rx.cnt.toNat + 1 ≤ (s.rx.buf.byte 1).toNat + 4 by omega) with hmore | hlast
  · rw [rxByteBody_more hs hlow hlt hmore] at hr
    cases hr
    rw [if_pos hmore]
    exact ⟨hs, hcnt, (List.append_nil _).symm⟩
  · rw [rxByteBody_last hs hlow hlt hlast] at hr
    cases hr
    rw [if_neg hlast.not_lt]
    split
    · exact ⟨rfl, hcnt.trans hlast, (List.append_nil _).symm⟩
    · exact ⟨rfl, rfl, rfl⟩

/-- Settles O20: the row of each event in the states in which it is enabled. -/
theorem receiveTransitionTable : Obligations.ReceiveTransitionTable := by
  unfold Obligations.ReceiveTransitionTable
  rintro i s t ⟨-, hrx, -⟩ (rfl | hi) h
  · cases h
    simp [transitionTable, moves]
  · cases i with
    | tick => exact transitionTable_tick hrx h
    | pktAccept =>
      obtain ⟨r, hr, rfl⟩ := onRx_eq_next.1 h
      obtain ⟨hs, rfl⟩ := rxAccept_eq_ok.1 hr
      simp [transitionTable, moves, hs]
    | rxByteType b =>
      obtain ⟨r, hr, rfl⟩ := onRx_eq_next.1 h
      obtain ⟨hs, rfl⟩ := rxByteType_eq_ok.1 hr
      simp [transitionTable, moves, hs]
    | rxByteLength b => exact transitionTable_rxByteLength h
    | rxByteBody b => exact transitionTable_rxByteBody hrx h
    | rxClose =>
      obtain ⟨r, hr, rfl⟩ := onRx_eq_next.1 h
      obtain ⟨hs | hs | hs, rfl⟩ := rxClose_eq_ok.1 hr <;> simp [transitionTable, moves, hs]
    | _ => cases hi

/-! ### The outputs of one event -/

/-- What one receive-side event can emit: nothing, a `Drop` on the way to `AWAIT_TYPE`, or the packet that waits. -/
theorem receiveEvent_output {i : Instr} {s t : State} (hi : isReceiveEvent i = true) (h : exec i s = .next t) :
    t.rx.actions = s.rx.actions ∨
    (∃ d, t.rx.actions = s.rx.actions ++ [.drop d] ∧ t.rx.state = .awaitType) ∨
    (t.rx.actions = s.rx.actions ++ [.deliver (s.rx.packet s.cfg)] ∧ s.rx.state = .complete) := by
  cases i with
  | tick =>
    obtain ⟨r, hr, rfl⟩ := onRx_eq_next.1 h
    rcases rxTick_eq_ok.1 hr with ⟨-, -, rfl⟩ | ⟨-, -, rfl⟩ | ⟨-, rfl⟩
    · exact .inr (.inl ⟨_, rfl, rfl⟩)
    · exact .inl rfl
    · exact .inl rfl
  | pktAccept =>
    obtain ⟨r, hr, rfl⟩ := onRx_eq_next.1 h
    obtain ⟨hs, rfl⟩ := rxAccept_eq_ok.1 hr
    exact .inr (.inr ⟨rfl, hs⟩)
  | rxByteType b =>
    obtain ⟨r, hr, rfl⟩ := onRx_eq_next.1 h
    obtain ⟨-, rfl⟩ := rxByteType_eq_ok.1 hr
    exact .inl rfl
  | rxByteLength b =>
    obtain ⟨r, hr, rfl⟩ := onRx_eq_next.1 h
    obtain ⟨-, ⟨-, rfl⟩ | ⟨-, rfl⟩⟩ := rxByteLength_eq_ok.1 hr
    · exact .inr (.inl ⟨_, rfl, rfl⟩)
    · exact .inl rfl
  | rxByteBody b =>
    obtain ⟨r, hr, rfl⟩ := onRx_eq_next.1 h
    obtain ⟨-, -, rfl⟩ := rxByteBody_eq_ok.1 hr
    rcases (s.rx.store b).judge_cases s.cfg with ⟨-, hj⟩ | ⟨-, -, hj⟩ | ⟨-, -, hj⟩ <;> simp only [hj]
    · exact .inl rfl
    · exact .inl rfl
    · exact .inr (.inl ⟨_, rfl, rfl⟩)
  | rxClose =>
    obtain ⟨r, hr, rfl⟩ := onRx_eq_next.1 h
    obtain ⟨-, rfl⟩ := rxClose_eq_ok.1 hr
    exact .inl rfl
  | _ => cases hi

/-- Settles O32: a `Drop` leads to `AWAIT_TYPE`, where nothing is offered, and a `Deliver` comes from `COMPLETE`. -/
theorem oneOutputPerReceiveEvent : Obligations.OneOutputPerReceiveEvent := by
  unfold Obligations.OneOutputPerReceiveEvent
  intro i s t hi h
  rcases receiveEvent_output hi h with hnone | ⟨d, hdrop, hs⟩ | ⟨hdeliver, hs⟩
  · exact ⟨[], by rw [hnone, List.append_nil], by simp, fun _ _ => rfl, nofun⟩
  · refine ⟨_, hdrop, le_rfl, fun _ ht => ?_, by simp⟩
    simp [State.pktValid, hs] at ht
  · have hvalid : s.pktValid = true := by simp [State.pktValid, hs]
    refine ⟨_, hdeliver, le_rfl, fun hs' => ?_, fun p hp => ?_⟩
    · simp [hvalid] at hs'
    · simp_all [State.pktOut]

end Sys2Proof.Machine
end

section
/-! SUPPORT. The window of a packet (R114, C1), and the receive side up to its timer (R123). -/

namespace Sys2Proof.Machine

/-! ### Several ticks -/

/-- With no window running, ticks do nothing. -/
theorem execTimes_tick_idle {s : State} (hw : s.rx.windowRuns = false) (n : Nat) : execTimes .tick n s = .next s := by
  induction n with
  | zero => rfl
  | succ n ih => rw [execTimes, exec_tick_idle hw, andThen_next, ih]

/-- Fewer ticks than are left of a window count it down. -/
theorem execTimes_tick_counts {s : State} {n : Nat} (hw : s.rx.windowRuns = true) (hn : n < s.rx.timer) :
    execTimes .tick n s = .next (s.withTimer (s.rx.timer - n)) := by
  induction n generalizing s with
  | zero => rfl
  | succ n ih =>
    have hrest := ih (s := s.withTimer (s.rx.timer - 1)) hw (by simp; omega)
    rw [execTimes, exec_tick_counts hw (by omega), andThen_next, hrest, State.withTimer_withTimer, State.withTimer_timer,
      Nat.sub_sub, Nat.add_comm 1]

/-- As many ticks as are left of a window, or more, expire it once. -/
theorem execTimes_tick_expires {s : State} {n : Nat} (hw : s.rx.windowRuns = true) (hpos : 1 ≤ s.rx.timer)
    (hn : s.rx.timer ≤ n) : ∃ k, execTimes .tick n s = .next { s with rx := (s.rx.withTimer k).drop .timeout } := by
  induction n generalizing s with
  | zero => omega
  | succ n ih =>
    rcases lt_or_ge 1 s.rx.timer with ht | ht
    · rw [execTimes, exec_tick_counts hw ht, andThen_next]
      exact ih hw (by simp; omega) (by simp; omega)
    · rw [execTimes, exec_tick_expires hw ht, andThen_next, execTimes_tick_idle rfl]
      exact ⟨s.rx.timer, rfl⟩

@[simp] theorem RxSide.judge_timer (c : Config) (r : RxSide) : (r.judge c).timer = r.timer := by
  rcases r.judge_cases c with ⟨-, hj⟩ | ⟨-, -, hj⟩ | ⟨-, -, hj⟩ <;> rw [hj]
  rfl

/-- Settles O53: ticks count the window down, and no byte after the type byte writes the timer. -/
theorem windowNotRestartedByBytes : Obligations.WindowNotRestartedByBytes := by
  unfold Obligations.WindowNotRestartedByBytes
  rintro s n ⟨-, ⟨-, -, -, hwindow, -⟩, -⟩ hs
  have hw := RxSide.windowRuns_eq_true.2 hs
  obtain ⟨hpos, -⟩ := hwindow hs
  refine ⟨fun hn => ⟨_, execTimes_tick_counts hw hn, rfl, rfl, rfl, rfl⟩, fun hn => ?expired, ?bytes⟩
  case expired =>
    obtain ⟨k, hk⟩ := execTimes_tick_expires hw hpos hn
    exact ⟨_, hk, rfl, rfl, rfl⟩
  case bytes =>
    rintro b t (h | h)
    · obtain ⟨r, hr, rfl⟩ := onRx_eq_next.1 h
      obtain ⟨-, ⟨-, rfl⟩ | ⟨-, rfl⟩⟩ := rxByteLength_eq_ok.1 hr <;> rfl
    · obtain ⟨r, hr, rfl⟩ := onRx_eq_next.1 h
      obtain ⟨-, -, rfl⟩ := rxByteBody_eq_ok.1 hr
      exact RxSide.judge_timer s.cfg (s.rx.store b)

/-! ### Up to the timer -/

/-- The operation does not read the timer: whatever its value, the same fault, or results that differ at most there. -/
def TimerBlind (op : Config → RxSide → Except Fault RxSide) : Prop :=
  ∀ (c : Config) (r : RxSide) (n : Nat), ∃ m, op c (r.withTimer n) = (op c r).map (RxSide.withTimer m)

theorem rxByteType_timerBlind (b : Byte) : TimerBlind (rxByteType b) := by
  intro c r n
  refine ⟨c.timeoutTicks, ?_⟩
  by_cases hs : r.state = .awaitType <;> simp [rxByteType, hs] <;> rfl

theorem rxByteLength_timerBlind (b : Byte) : TimerBlind (rxByteLength b) := by
  intro c r n
  refine ⟨n, ?_⟩
  by_cases hs : r.state = .awaitLength <;> by_cases hb : c.maxData < b.toNat <;> simp [rxByteLength, hs, hb] <;> rfl

theorem RxSide.judge_withTimer (n : Nat) (c : Config) (r : RxSide) :
    (r.withTimer n).judge c = (r.judge c).withTimer n := by
  rcases r.judge_cases c with ⟨hcnt, hj⟩ | ⟨hcnt, hv, hj⟩ | ⟨hcnt, hv, hj⟩ <;> rw [hj]
  · exact if_neg hcnt
  · exact (if_pos hcnt).trans (if_pos hv)
  · exact (if_pos hcnt).trans (if_neg (Bool.eq_false_iff.1 hv))

theorem rxByteBody_timerBlind (b : Byte) : TimerBlind (rxByteBody b) := by
  intro c r n
  refine ⟨n, ?_⟩
  have hjudge : ((r.withTimer n).store b).judge c = ((r.store b).judge c).withTimer n := (r.store b).judge_withTimer n c
  by_cases hs : r.state = .awaitBody <;> by_cases hlt : r.cnt.toNat < bufferSize <;>
    simp [rxByteBody, hs, hlt, hjudge] <;> rfl

theorem rxByte_timerBlind (b : Byte) : TimerBlind (rxByte b) := by
  intro c r n
  cases hs : r.state <;> simp only [rxByte, RxSide.withTimer_state, hs]
  case awaitType => exact rxByteType_timerBlind b c r n
  case awaitLength => exact rxByteLength_timerBlind b c r n
  case awaitBody => exact rxByteBody_timerBlind b c r n
  case complete | terminated => exact ⟨n, rfl⟩

theorem rxAccept_timerBlind : TimerBlind rxAccept := by
  intro c r n
  refine ⟨n, ?_⟩
  by_cases hs : r.state = .complete <;> simp [rxAccept, hs] <;> rfl

theorem rxClose_timerBlind : TimerBlind rxClose := by
  intro c r n
  refine ⟨n, ?_⟩
  by_cases hs : r.state = .awaitType ∨ r.state = .awaitLength ∨ r.state = .awaitBody <;> simp [rxClose, hs] <;> rfl

/-- The same stop, or next states that differ at most in `rx_timer`. -/
inductive AgreeUpToTimer : Result → Result → Prop
  | next (t : State) (m : Nat) : AgreeUpToTimer (.next t) (.next (t.withTimer m))
  | fault (r : Fault) : AgreeUpToTimer (.fault r) (.fault r)
  | refused (x : Refusal) : AgreeUpToTimer (.refused x) (.refused x)

theorem onRx_agreeUpToTimer {op : Config → RxSide → Except Fault RxSide} (hop : TimerBlind op) (s : State) (n : Nat) :
    AgreeUpToTimer (onRx op s) (onRx op (s.withTimer n)) := by
  obtain ⟨m, hm⟩ := hop s.cfg s.rx n
  have hop' : op (s.withTimer n).cfg (s.withTimer n).rx = (op s.cfg s.rx).map (RxSide.withTimer m) := hm
  rw [onRx, onRx, hop']
  cases op s.cfg s.rx with
  | ok r => exact .next { s with rx := r } m
  | error e => exact .fault e

theorem onTx_agreeUpToTimer (op : Config → TxSide → Except Fault TxSide) (s : State) (n : Nat) :
    AgreeUpToTimer (onTx op s) (onTx op (s.withTimer n)) := by
  have hsame : op (s.withTimer n).cfg (s.withTimer n).tx = op s.cfg s.tx := rfl
  rw [onTx, onTx, hsame]
  cases op s.cfg s.tx with
  | ok x => exact .next { s with tx := x } n
  | error e => exact .fault e

theorem andThen_agreeUpToTimer {o o' : Result} {f : State → Result} (ho : AgreeUpToTimer o o')
    (hf : ∀ s n, AgreeUpToTimer (f s) (f (s.withTimer n))) : AgreeUpToTimer (andThen o f) (andThen o' f) := by
  cases ho with
  | next t m => exact hf t m
  | fault r => exact .fault r
  | refused x => exact .refused x

theorem receiveBytes_agreeUpToTimer (bs : List Byte) (s : State) (n : Nat) :
    AgreeUpToTimer (receiveBytes bs s) (receiveBytes bs (s.withTimer n)) := by
  induction bs generalizing s n with
  | nil => exact .next s n
  | cons b bs ih => exact andThen_agreeUpToTimer (onRx_agreeUpToTimer (rxByte_timerBlind b) s.beginCycle n) ih

theorem transfer_agreeUpToTimer (t : Byte) (x : Transfer) (s : State) (n : Nat) :
    AgreeUpToTimer (transfer t x s) (transfer t x (s.withTimer n)) := by
  cases x with
  | send | sendOversize => exact onTx_agreeUpToTimer _ s n
  | receive | receiveOversize => exact receiveBytes_agreeUpToTimer _ s n

/-- Only TICK reads the timer. -/
theorem exec_agreeUpToTimer {i : Instr} (hi : i ≠ .tick) (s : State) (n : Nat) :
    AgreeUpToTimer (exec i s) (exec i (s.withTimer n)) := by
  cases i with
  | tick => exact absurd rfl hi
  | reset => exact .next { s with rx := s.rx.toReset, tx := s.tx.toReset } n
  | pktAccept => exact onRx_agreeUpToTimer rxAccept_timerBlind s n
  | rxByteType b => exact onRx_agreeUpToTimer (rxByteType_timerBlind b) s n
  | rxByteLength b => exact onRx_agreeUpToTimer (rxByteLength_timerBlind b) s n
  | rxByteBody b => exact onRx_agreeUpToTimer (rxByteBody_timerBlind b) s n
  | rxClose => exact onRx_agreeUpToTimer rxClose_timerBlind s n
  | txStart | txFail | txByte => exact onTx_agreeUpToTimer _ s n
  | _ => exact transfer_agreeUpToTimer _ _ s n

/-- Settles O55: the last tick of a window is EXPIRE, any other changes at most the timer, which nothing else reads. -/
theorem tickIsNothingOrExpire : Obligations.TickIsNothingOrExpire := by
  unfold Obligations.TickIsNothingOrExpire
  refine ⟨fun s t n h => ?tick, fun i s n hi => ?others⟩
  case tick =>
    obtain ⟨r, hr, rfl⟩ := onRx_eq_next.1 h
    refine ⟨?_, rfl, rfl, rfl⟩
    rcases rxTick_eq_ok.1 hr with ⟨hw, -, rfl⟩ | ⟨-, -, rfl⟩ | ⟨-, rfl⟩
    · exact .inr (if_pos hw)
    · exact .inl rfl
    · exact .inl rfl
  case others =>
    have hagree : AgreeUpToTimer (exec i s) (exec i { s with rx := { s.rx with timer := n } }) :=
      exec_agreeUpToTimer hi s n
    generalize exec i { s with rx := { s.rx with timer := n } } = o' at hagree
    constructor
    · intro t ht
      rw [ht] at hagree
      cases hagree with
      | next _ m => exact ⟨m, rfl⟩
    · intro r hr
      rw [hr] at hagree
      cases hagree
      rfl

end Sys2Proof.Machine
end

section
/-! SUPPORT. `parse` (R120) by frames: what `takeFrame` finds at the head of a byte sequence, and that the bound on the
number of frames does not matter. -/

namespace Sys2Proof.Machine

section

variable {c : Config}

/-! ### The first frame -/

theorem takeFrame_of_short {s : List Byte} (h : s.length < 2) : takeFrame c s = none := by
  obtain _ | ⟨t, _ | ⟨n, rest⟩⟩ := s
  · rfl
  · rfl
  · simp at h

theorem takeFrame_of_illegal_length {t n : Byte} (hn : c.maxData < n.toNat) (rest : List Byte) :
    takeFrame c (t :: n :: rest) = some ([], rest) :=
  if_pos hn

theorem takeFrame_of_partial {t n : Byte} {rest : List Byte} (hn : n.toNat ≤ c.maxData) (h : rest.length < n.toNat + 2) :
    takeFrame c (t :: n :: rest) = none :=
  (if_neg hn.not_gt).trans (if_pos h)

/-- The packet that a frame with type byte `t`, length byte `n` and these bytes after it delivers (R115, R120). -/
def framePacket (c : Config) (t n : Byte) (rest : List Byte) : Packet where
  type := t
  len := n.setWidth 5
  data := rest.take n.toNat
  isReport := isReport c t

theorem takeFrame_of_whole {t n : Byte} {rest : List Byte} (hn : n.toNat ≤ c.maxData) (h : n.toNat + 2 ≤ rest.length) :
    takeFrame c (t :: n :: rest) =
      some (if (stripAndVerify c (t :: n :: rest.take (n.toNat + 2))).2 then [framePacket c t n rest] else [],
        rest.drop (n.toNat + 2)) :=
  (if_neg hn.not_gt).trans (if_neg h.not_gt)

/-- Sequences of two bytes or more: the length byte is illegal, the frame is not whole, or it is. -/
theorem frame_cases (c : Config) (n : Byte) (rest : List Byte) :
    c.maxData < n.toNat ∨ n.toNat ≤ c.maxData ∧ rest.length < n.toNat + 2 ∨
      n.toNat ≤ c.maxData ∧ n.toNat + 2 ≤ rest.length := by
  omega

/-- A frame ends where it does whatever follows. -/
theorem takeFrame_append {s left : List Byte} {packets : List Packet} (h : takeFrame c s = some (packets, left))
    (more : List Byte) : takeFrame c (s ++ more) = some (packets, left ++ more) := by
  obtain _ | ⟨t, _ | ⟨n, rest⟩⟩ := s
  · cases h
  · cases h
  · rw [List.cons_append, List.cons_append]
    rcases frame_cases c n rest with hn | ⟨hn, hr⟩ | ⟨hn, hr⟩
    · rw [takeFrame_of_illegal_length hn] at h ⊢
      cases h
      rfl
    · rw [takeFrame_of_partial hn hr] at h
      cases h
    · rw [takeFrame_of_whole hn hr] at h
      cases h
      rw [takeFrame_of_whole hn (by simp; omega), List.take_append_of_le_length hr, List.drop_append_of_le_length hr,
        framePacket, framePacket, List.take_append_of_le_length (by omega)]

theorem takeFrame_eq_none_of_append {s more : List Byte} (h : takeFrame c (s ++ more) = none) : takeFrame c s = none := by
  by_contra hs
  obtain ⟨⟨packets, left⟩, hs⟩ := Option.ne_none_iff_exists'.1 hs
  rw [takeFrame_append hs] at h
  cases h

/-- A frame takes at least its type and length bytes. -/
theorem takeFrame_left_length {s left : List Byte} {packets : List Packet} (h : takeFrame c s = some (packets, left)) :
    left.length + 2 ≤ s.length := by
  obtain _ | ⟨t, _ | ⟨n, rest⟩⟩ := s
  · cases h
  · cases h
  · rcases frame_cases c n rest with hn | ⟨hn, hr⟩ | ⟨hn, hr⟩
    · rw [takeFrame_of_illegal_length hn] at h
      cases h
      exact le_rfl
    · rw [takeFrame_of_partial hn hr] at h
      cases h
    · rw [takeFrame_of_whole hn hr] at h
      cases h
      simp

/-! ### All frames -/

/-- Two bounds that are large enough give the same packets and leave the same bytes. -/
theorem parseBound_congr {m n : Nat} {s : List Byte} (hm : s.length ≤ m) (hn : s.length ≤ n) :
    parseBound c m s = parseBound c n s ∧ leftoverBound c m s = leftoverBound c n s := by
  induction m generalizing n s with
  | zero =>
    obtain rfl := List.length_eq_zero_iff.1 (Nat.le_zero.1 hm)
    cases n <;> exact ⟨rfl, rfl⟩
  | succ m ih =>
    cases n with
    | zero =>
      obtain rfl := List.length_eq_zero_iff.1 (Nat.le_zero.1 hn)
      exact ⟨rfl, rfl⟩
    | succ n =>
      simp only [parseBound, leftoverBound]
      cases hf : takeFrame c s with
      | none => exact ⟨rfl, rfl⟩
      | some frame =>
        have hlen := takeFrame_left_length hf
        obtain ⟨hparse, hleft⟩ := ih (n := n) (s := frame.2) (by omega) (by omega)
        exact ⟨congrArg (frame.1 ++ ·) hparse, hleft⟩

theorem parse_of_no_frame {s : List Byte} (h : takeFrame c s = none) : parse c s = [] ∧ leftover c s = s := by
  rw [parse, leftover]
  cases s.length with
  | zero => exact ⟨rfl, rfl⟩
  | succ k => simp only [parseBound, leftoverBound, h, and_self]

/-- The recursion of R120. -/
theorem parse_of_frame {s left : List Byte} {packets : List Packet} (h : takeFrame c s = some (packets, left)) :
    parse c s = packets ++ parse c left ∧ leftover c s = leftover c left := by
  have hlen := takeFrame_left_length h
  obtain ⟨k, hk⟩ : ∃ k, s.length = k + 1 := ⟨s.length - 1, by omega⟩
  obtain ⟨hparse, hleft⟩ := parseBound_congr (c := c) (m := k) (n := left.length) (s := left) (by omega) le_rfl
  rw [parse, leftover, hk]
  simp only [parseBound, leftoverBound, h]
  exact ⟨congrArg (packets ++ ·) hparse, hleft⟩

end

end Sys2Proof.Machine
end

section
/-! SUPPORT. The receive side within a packet: which bytes it holds, and what the next byte does (R111 to R113). -/

namespace Sys2Proof.Machine

/-- The receive side awaits the next byte of a packet of which it has taken the given bytes (R11 to R13). -/
inductive RxSide.Awaits (c : Config) (r : RxSide) : List Byte → Prop
  | type (hs : r.state = .awaitType) : Awaits c r []
  | length {t : Byte} (hs : r.state = .awaitLength) (hcnt : r.cnt.toNat = 1) (hheld : r.held = [t]) : Awaits c r [t]
  | body {t n : Byte} {rest : List Byte} (hs : r.state = .awaitBody) (hcnt : r.cnt.toNat = rest.length + 2)
      (hheld : r.held = t :: n :: rest) (hn : n.toNat ≤ c.maxData) (hpart : rest.length < n.toNat + 2) :
      Awaits c r (t :: n :: rest)

namespace RxSide.Awaits

variable {c : Config} {r r' : RxSide} {u : List Byte}

/-- Only `rx_state`, `rx_cnt` and `rx_buf` matter. -/
theorem of_same (h : r.Awaits c u) (hs : r'.state = r.state) (hc : r'.cnt = r.cnt) (hb : r'.buf = r.buf) :
    r'.Awaits c u := by
  have hh : r'.held = r.held := by rw [RxSide.held, RxSide.held, hb, hc]
  cases h with
  | type hs' => exact .type (hs.trans hs')
  | length hs' hcnt hheld => exact .length (hs.trans hs') (hc ▸ hcnt) (hh.trans hheld)
  | body hs' hcnt hheld hn hpart => exact .body (hs.trans hs') (hc ▸ hcnt) (hh.trans hheld) hn hpart

theorem clearPulse (h : r.Awaits c u) : r.clearPulse.Awaits c u := h.of_same rfl rfl rfl

theorem withTimer (h : r.Awaits c u) (n : Nat) : (r.withTimer n).Awaits c u := h.of_same rfl rfl rfl

theorem state_ne_complete (h : r.Awaits c u) : r.state ≠ .complete := by
  cases h with
  | type hs => simp [hs]
  | length hs | body hs => simp [hs]

theorem windowRuns (h : r.Awaits c u) (hu : u ≠ []) : r.windowRuns = true := by
  cases h with
  | type hs => exact absurd rfl hu
  | length hs => exact RxSide.windowRuns_eq_true.2 (.inl hs)
  | body hs => exact RxSide.windowRuns_eq_true.2 (.inr hs)

theorem takeFrame_eq_none (h : r.Awaits c u) : takeFrame c u = none := by
  cases h with
  | type => rfl
  | length => rfl
  | body _ _ _ hn hpart => exact takeFrame_of_partial hn hpart

end RxSide.Awaits

/-! ### Reading the held bytes -/

theorem Buffer.byte_of_getElem?_slice {buf : Buffer} {k i : Nat} {b : Byte} (h : (buf.slice 0 k)[i]? = some b) :
    buf.byte i = b := by
  simp only [Buffer.slice, List.drop_zero, List.getElem?_take] at h
  split at h
  · rw [Buffer.byte, List.getD_eq_getElem?_getD, h, Option.getD_some]
  · cases h

theorem RxSide.byte_of_held {r : RxSide} {i : Nat} {b : Byte} (h : r.held[i]? = some b) : r.buf.byte i = b :=
  Buffer.byte_of_getElem?_slice h

/-- The packet shown is that of the frame held. -/
theorem RxSide.packet_of_held {c : Config} {r : RxSide} {t n : Byte} {rest : List Byte} (h : r.held = t :: n :: rest)
    (hcnt : n.toNat + 2 ≤ r.cnt.toNat) : r.packet c = framePacket c t n rest := by
  have ht : r.buf.byte 0 = t := RxSide.byte_of_held (by rw [h]; rfl)
  have hn : r.buf.byte 1 = n := RxSide.byte_of_held (by rw [h]; rfl)
  have hdata : r.buf.slice 2 (2 + n.toNat) = rest.take n.toNat := by
    have hslice : (r.held.take (2 + n.toNat)).drop 2 = r.buf.slice 2 (2 + n.toNat) := by
      rw [RxSide.held, Buffer.take_slice _ (by omega)]
      rfl
    rw [← hslice, h, Nat.add_comm 2]
    rfl
  rw [RxSide.packet, ht, hn, hdata, framePacket]

/-! ### The next byte -/

/-- Bytes of a packet that does not end with them: the next one is taken and no more. The first of them starts the window. -/
theorem RxSide.Awaits.rxByte_more {c : Config} {r : RxSide} {u : List Byte} {b : Byte} (h : r.Awaits c u)
    (hmax : c.maxData ≤ 22) (hmore : takeFrame c (u ++ [b]) = none) :
    ∃ r', rxByte b c r = .ok r' ∧ r'.Awaits c (u ++ [b]) ∧ r'.actions = r.actions ∧
      r'.timer = if u = [] then c.timeoutTicks else r.timer := by
  cases h with
  | type hs =>
    refine ⟨_, rxByte_eq_ok.2 (.inl (rxByteType_eq_ok.2 ⟨hs, rfl⟩)), .length rfl rfl ?held, rfl, rfl⟩
    case held => exact Buffer.slice_put r.buf b (n := 0) (by decide)
  | @length t hs hcnt hheld =>
    have hb : b.toNat ≤ c.maxData := by
      by_contra hb
      rw [List.singleton_append, takeFrame_of_illegal_length (not_le.1 hb)] at hmore
      cases hmore
    refine ⟨_, rxByte_eq_ok.2 (.inr (.inl (rxByteLength_eq_ok.2 ⟨hs, .inr ⟨hb, rfl⟩⟩))), .body rfl rfl ?held hb (by simp),
      rfl, rfl⟩
    case held =>
      rw [RxSide.held, hcnt] at hheld
      exact (Buffer.slice_put r.buf b (n := 1) (by decide)).trans (by rw [hheld]; rfl)
  | @body t n rest hs hcnt hheld hn hpart =>
    have hlt : r.cnt.toNat < 26 := by omega
    have hbyte : r.buf.byte 1 = n := RxSide.byte_of_held (by rw [hheld]; rfl)
    have hpart' : (rest ++ [b]).length < n.toNat + 2 := by
      by_contra hwhole
      rw [List.cons_append, List.cons_append, takeFrame_of_whole hn (not_lt.1 hwhole)] at hmore
      cases hmore
    refine ⟨r.store b, rxByte_eq_ok.2 (.inr (.inr (rxByteBody_more hs ?low hlt ?short))),
      .body hs ?cnt ?held hn hpart', rfl, rfl⟩
    case low => omega
    case short => rw [hbyte]; simp at hpart'; omega
    case cnt => rw [RxSide.store_cnt_toNat _ _ hlt, hcnt]; simp
    case held => rw [RxSide.held_store _ _ hlt, hheld]; rfl

/-- An illegal length byte (R112). -/
theorem RxSide.Awaits.rxByte_illegal_length {c : Config} {r : RxSide} {t n : Byte} (h : r.Awaits c [t])
    (hn : c.maxData < n.toNat) : rxByte n c r = .ok (r.drop .badLength) := by
  cases h with
  | length hs => exact rxByte_eq_ok.2 (.inr (.inl (rxByteLength_eq_ok.2 ⟨hs, .inl ⟨hn, rfl⟩⟩)))

/-- The last byte of a packet (R113): with it the frame is complete, and offered, or dropped. -/
theorem RxSide.Awaits.rxByte_last {c : Config} {r : RxSide} {t n b : Byte} {rest : List Byte}
    (h : r.Awaits c (t :: n :: rest)) (hmax : c.maxData ≤ 22) (hlast : rest.length = n.toNat + 1) :
    ∃ r', rxByte b c r = .ok r' ∧ r'.timer = r.timer ∧
      if (stripAndVerify c (t :: n :: (rest ++ [b]))).2 then
        r'.state = .complete ∧ r'.packet c = framePacket c t n (rest ++ [b]) ∧ r'.actions = r.actions
      else ∃ x : RxSide, x.actions = r.actions ∧ r' = x.drop .badCrc := by
  cases h with
  | body hs hcnt hheld hn hpart =>
    have hlt : r.cnt.toNat < 26 := by omega
    have hbyte : r.buf.byte 1 = n := RxSide.byte_of_held (by rw [hheld]; rfl)
    have hop := rxByteBody_last (c := c) (b := b) hs (by omega) hlt (by rw [hbyte]; omega)
    have hstored : (r.store b).held = t :: n :: (rest ++ [b]) := by rw [RxSide.held_store _ _ hlt, hheld]; rfl
    have hstoredCnt := r.store_cnt_toNat b hlt
    have hframe : r.held ++ [b] = t :: n :: (rest ++ [b]) := by rw [hheld]; rfl
    rw [hframe] at hop
    refine ⟨_, rxByte_eq_ok.2 (.inr (.inr hop)), ?_⟩
    cases (stripAndVerify c (t :: n :: (rest ++ [b]))).2
    · exact ⟨rfl, r.store b, rfl, rfl⟩
    · exact ⟨rfl, rfl, RxSide.packet_of_held (r := r.store b) hstored (by omega), rfl⟩

end Sys2Proof.Machine
end

section
/-! SUPPORT. Packets fed to the receive framer: back to back as a packet word, with a ready consumer (R120), slowly (R121). -/

namespace Sys2Proof.Machine

/-! ### The three ways of feeding, up to the last byte

Each takes the bytes before the last one into the buffer; what the last one does is `RxSide.Awaits.rxByte_last`. -/

theorem receiveBytes_to_last {s : State} {u w : List Byte} {b : Byte} (hmax : s.cfg.maxData ≤ 22)
    (h : s.rx.Awaits s.cfg u) (hpart : takeFrame s.cfg (u ++ w) = none) :
    ∃ r, r.Awaits s.cfg (u ++ w) ∧ r.actions = s.rx.actions ∧
      (r.timer = if u = [] ∧ w ≠ [] then s.cfg.timeoutTicks else s.rx.timer) ∧
      receiveBytes (w ++ [b]) s = onRx (rxByte b) { s with rx := r, tx := s.tx.clearPulse } := by
  induction w generalizing s u with
  | nil =>
    refine ⟨s.rx.clearPulse, by simpa using h.clearPulse, rfl, by simp, ?_⟩
    exact andThen_next_right _
  | cons x w ih =>
    rw [List.append_cons] at hpart ⊢
    obtain ⟨r, hr, hawaits, hactions, htimer⟩ := h.clearPulse.rxByte_more hmax (takeFrame_eq_none_of_append hpart)
    obtain ⟨r', hawaits', hactions', htimer', hlast⟩ :=
      ih (s := { s with rx := r, tx := s.tx.clearPulse }) hmax hawaits hpart
    refine ⟨r', hawaits', hactions'.trans hactions, ?_, ?_⟩
    · rw [htimer']; simp [htimer]
    · rw [List.cons_append, receiveBytes_cons_of_ok hr, hlast]
      rfl

theorem acceptIfComplete_of_awaits {s : State} {u : List Byte} (h : s.rx.Awaits s.cfg u) :
    acceptIfComplete s = .next s :=
  if_neg (by simpa [State.pktValid] using h.state_ne_complete)

theorem feed_cons_of_awaits {s : State} {u : List Byte} (h : s.rx.Awaits s.cfg u) (b : Byte) (bs : List Byte) :
    feed (b :: bs) s = andThen (onRx (rxByte b) s) (feed bs) := by
  rw [feed, acceptIfComplete_of_awaits h, andThen_next]

theorem feed_to_last {s : State} {u w : List Byte} {b : Byte} (hmax : s.cfg.maxData ≤ 22)
    (h : s.rx.Awaits s.cfg u) (hpart : takeFrame s.cfg (u ++ w) = none) :
    ∃ r, r.Awaits s.cfg (u ++ w) ∧ r.actions = s.rx.actions ∧
      feed (w ++ [b]) s = andThen (onRx (rxByte b) { s with rx := r }) acceptIfComplete := by
  induction w generalizing s u with
  | nil => exact ⟨s.rx, by simpa using h, rfl, feed_cons_of_awaits h b []⟩
  | cons x w ih =>
    rw [List.append_cons] at hpart ⊢
    obtain ⟨r, hr, hawaits, hactions, -⟩ := h.rxByte_more hmax (takeFrame_eq_none_of_append hpart)
    obtain ⟨r', hawaits', hactions', hlast⟩ := ih (s := { s with rx := r }) hmax hawaits hpart
    have hfirst : onRx (rxByte x) s = .next { s with rx := r } := onRx_eq_next.2 ⟨r, hr, rfl⟩
    refine ⟨r', hawaits', hactions'.trans hactions, ?_⟩
    rw [List.cons_append, feed_cons_of_awaits h, hfirst, andThen_next, hlast]

/-- Within a packet, with fewer ticks than are left of its window. -/
theorem feedSlowly_to_last {s : State} {u : List Byte} {timed : List (Nat × Byte)} {n : Nat} {b : Byte}
    (hmax : s.cfg.maxData ≤ 22) (hu : u ≠ []) (h : s.rx.Awaits s.cfg u)
    (hpart : takeFrame s.cfg (u ++ timed.map Prod.snd) = none) (hticks : (timed.map Prod.fst).sum + n < s.rx.timer) :
    ∃ r, r.Awaits s.cfg (u ++ timed.map Prod.snd) ∧ r.actions = s.rx.actions ∧
      feedSlowly (timed ++ [(n, b)]) s = onRx (rxByte b) { s with rx := r } := by
  have hw := h.windowRuns hu
  induction timed generalizing s u with
  | nil =>
    have hcount := execTimes_tick_counts (n := n) hw (by simpa using hticks)
    refine ⟨s.rx.withTimer (s.rx.timer - n), by simpa using h.withTimer _, rfl, ?_⟩
    rw [List.nil_append, feedSlowly, hcount, andThen_next]
    exact andThen_next_right _
  | cons first timed ih =>
    obtain ⟨m, x⟩ := first
    simp only [List.map_cons, List.sum_cons] at hpart hticks ⊢
    rw [List.append_cons] at hpart ⊢
    have hcount := execTimes_tick_counts (n := m) hw (by omega)
    obtain ⟨r, hr, hawaits, hactions, htimer⟩ :=
      (h.withTimer (s.rx.timer - m)).rxByte_more hmax (takeFrame_eq_none_of_append hpart)
    rw [if_neg hu] at htimer
    have hleft : (timed.map Prod.fst).sum + n < r.timer := by rw [htimer, RxSide.withTimer]; simp only; omega
    obtain ⟨r', hawaits', hactions', hlast⟩ :=
      ih (s := { s with rx := r }) hmax (by simp) hawaits hpart hleft (hawaits.windowRuns (by simp))
    have hfirst : onRx (rxByte x) (s.withTimer (s.rx.timer - m)) = .next { s with rx := r } :=
      onRx_eq_next.2 ⟨r, hr, rfl⟩
    refine ⟨r', hawaits', hactions'.trans hactions, ?_⟩
    rw [List.cons_append, feedSlowly, hcount, andThen_next, hfirst, andThen_next, hlast]

end Sys2Proof.Machine
end

section
/-! SUPPORT. One whole packet, with a right or a wrong CRC, and the framer as the function `parse` (R120, R121). -/

namespace Sys2Proof.Machine

/-! ### The frame of a packet -/

section

variable {c : Config} {data : List Byte} (hmax : c.maxData ≤ 22) (hdata : data.length ≤ c.maxData)
include hmax hdata

theorem lengthByte_toNat : (BitVec.ofNat 8 data.length : Byte).toNat = data.length :=
  toNat_lengthByte (hdata.trans hmax)

/-- Without its last byte a packet is no whole frame. -/
theorem takeFrame_without_last_byte (ty lo : Byte) :
    takeFrame c (ty :: BitVec.ofNat 8 data.length :: (data ++ [lo])) = none := by
  have hn := lengthByte_toNat hmax hdata
  exact takeFrame_of_partial (by omega) (by simp; omega)

theorem length_without_last_byte (lo : Byte) :
    (data ++ [lo]).length = (BitVec.ofNat 8 data.length : Byte).toNat + 1 := by
  rw [lengthByte_toNat hmax hdata, List.length_append, List.length_singleton]

end

/-- Settles O41: the CRC bytes the packet carries are not those of its other bytes. -/
theorem packetWithWrongCrcDropped : Obligations.PacketWithWrongCrcDropped := by
  unfold Obligations.PacketWithWrongCrcDropped
  intro i ty data crc s htype htransfer hlegal hs hdata hcrc
  obtain ⟨hmax, -⟩ := (Config.legal_iff s.cfg).1 hlegal
  have hbytes : encodeTransfer ty (.receive data crc) =
      (ty :: BitVec.ofNat 8 data.length :: (data ++ [crcLo crc])) ++ [crcHi crc] := by simp [encodeTransfer]
  have hwrong : (stripAndVerify s.cfg (ty :: BitVec.ofNat 8 data.length :: (data ++ [crcLo crc] ++ [crcHi crc]))).2 =
      false := by
    have hpair := stripAndVerify_append_pair s.cfg (ty :: BitVec.ofNat 8 data.length :: data) (crcLo crc) (crcHi crc)
    rw [halfOf_hi_lo, decide_eq_false hcrc] at hpair
    simpa using congrArg Prod.snd hpair
  obtain ⟨r, hawaits, hactions, htimer, hlast⟩ := receiveBytes_to_last (b := crcHi crc) hmax (.type hs)
    (takeFrame_without_last_byte hmax hdata ty (crcLo crc))
  obtain ⟨r', hop, htimer', hdropped⟩ := hawaits.rxByte_last (b := crcHi crc) hmax (length_without_last_byte hmax hdata _)
  rw [hwrong] at hdropped
  obtain ⟨x, hx, rfl⟩ := hdropped
  refine ⟨{ s with rx := x.drop .badCrc, tx := s.tx.clearPulse }, ?exec, rfl, rfl, rfl, ?timer, rfl, rfl, ?actions, rfl, rfl,
    rfl⟩
  case exec =>
    rw [exec_packet ⟨htype, htransfer⟩ rfl, hbytes, hlast]
    exact onRx_eq_next.2 ⟨_, hop, rfl⟩
  case timer => simpa using htimer'.trans htimer
  case actions => rw [RxSide.drop_actions, hx, hactions]

/-! ### A slow packet -/

theorem eq_of_map_snd {timed : List (Nat × Byte)} {x y : Byte} {w : List Byte}
    (h : timed.map Prod.snd = x :: (w ++ [y])) :
    ∃ m n init, timed = (m, x) :: (init ++ [(n, y)]) ∧ init.map Prod.snd = w := by
  obtain ⟨⟨m, _⟩, rest, rfl, rfl, hrest⟩ := List.map_eq_cons_iff.1 h
  obtain ⟨init, last, rfl, hinit, hlast⟩ := List.map_eq_append_iff.1 hrest
  obtain ⟨⟨n, _⟩, rfl, rfl⟩ := List.map_eq_singleton_iff.1 hlast
  exact ⟨m, n, init, rfl, hinit⟩

/-- A packet that verifies, fed slowly: the ticks before its type byte do nothing, and those after it do not expire the
window (R121 (a)). -/
theorem feedSlowly_packet {s : State} {ty lo hi : Byte} {data : List Byte} {m n : Nat} {init : List (Nat × Byte)}
    (hmax : s.cfg.maxData ≤ 22) (hdata : data.length ≤ s.cfg.maxData) (hs : s.rx.state = .awaitType)
    (hinit : init.map Prod.snd = BitVec.ofNat 8 data.length :: (data ++ [lo]))
    (hticks : (init.map Prod.fst).sum + n < s.cfg.timeoutTicks)
    (hright : (stripAndVerify s.cfg (ty :: BitVec.ofNat 8 data.length :: (data ++ [lo] ++ [hi]))).2 = true) :
    ∃ r, feedSlowly ((m, ty) :: (init ++ [(n, hi)])) s = .next { s with rx := r } ∧ r.state = .complete ∧
      r.packet s.cfg = framePacket s.cfg ty (BitVec.ofNat 8 data.length) (data ++ [lo] ++ [hi]) ∧
      r.actions = s.rx.actions := by
  have hidle : execTimes .tick m s = .next s := execTimes_tick_idle (RxSide.windowRuns_eq_false.2 (.inl hs)) m
  obtain ⟨r, hr, hawaits, hactions, htimer⟩ := (RxSide.Awaits.type (c := s.cfg) hs).rxByte_more (b := ty) hmax rfl
  have hfirst : onRx (rxByte ty) s = .next { s with rx := r } := onRx_eq_next.2 ⟨r, hr, rfl⟩
  have hpart : takeFrame s.cfg ([ty] ++ init.map Prod.snd) = none := by
    rw [hinit]
    exact takeFrame_without_last_byte hmax hdata ty lo
  obtain ⟨r', hawaits', hactions', hfed⟩ := feedSlowly_to_last (s := { s with rx := r }) (n := n) (b := hi) hmax (by simp)
    hawaits hpart (by simpa [htimer] using hticks)
  rw [hinit] at hawaits'
  obtain ⟨r'', hop, -, hcomplete⟩ := RxSide.Awaits.rxByte_last (b := hi) hawaits' hmax
    (length_without_last_byte hmax hdata lo)
  rw [hright] at hcomplete
  obtain ⟨hstate, hpacket, hactions''⟩ := hcomplete
  refine ⟨r'', ?fed, hstate, hpacket, hactions''.trans (hactions'.trans hactions)⟩
  case fed =>
    rw [feedSlowly, hidle, andThen_next, hfirst, andThen_next, hfed]
    exact onRx_eq_next.2 ⟨_, hop, rfl⟩

/-- Settles O52: the packet verifies, so it waits in `COMPLETE` for PKT_ACCEPT. -/
theorem slowPacketIsDelivered : Obligations.SlowPacketIsDelivered := by
  unfold Obligations.SlowPacketIsDelivered
  intro s ty data timed hlegal hs hdata hbytes hticks
  obtain ⟨hmax, -⟩ := (Config.legal_iff s.cfg).1 hlegal
  have hn := lengthByte_toNat hmax hdata
  have hright := congrArg Prod.snd (checksumRoundTrip s.cfg (ty :: BitVec.ofNat 8 data.length :: data))
  simp only [appendCrc, List.cons_append] at hbytes hright
  generalize crcLo _ = lo, crcHi _ = hi at hbytes hright
  rw [List.append_cons data lo] at hbytes hright
  obtain ⟨m, n, init, rfl, hinit⟩ := eq_of_map_snd (w := BitVec.ofNat 8 data.length :: (data ++ [lo])) hbytes
  obtain ⟨r, hfed, hstate, hpacket, hactions⟩ :=
    feedSlowly_packet (m := m) hmax hdata hs hinit (by simpa using hticks) hright
  have haccept : exec .pktAccept { s with rx := r } = .next _ :=
    onRx_eq_next.2 ⟨_, rxAccept_eq_ok.2 ⟨hstate, rfl⟩, rfl⟩
  refine ⟨_, r.packet s.cfg, by rw [hfed, andThen_next, haccept], ?actions, rfl, ?packet⟩
  case actions => rw [hactions]
  case packet =>
    rw [hpacket]
    refine ⟨rfl, ?len, ?data, rfl, rfl⟩
    case len => rw [framePacket, BitVec.toNat_setWidth, hn, Nat.mod_eq_of_lt (by omega)]
    case data => simp [framePacket, hn]

/-! ### One bit inverted -/

/-- A bit outside the second byte leaves that byte and the length of the sequence. -/
theorem flipBit_outside_second (t n : Byte) (rest : List Byte) {k : Nat} (hk : k / 8 ≠ 1) :
    ∃ t' rest', flipBit (t :: n :: rest) k = t' :: n :: rest' ∧ rest'.length = rest.length := by
  rw [flipBit]
  match k / 8, hk with
  | 0, _ => exact ⟨_, rest, rfl, rfl⟩
  | j + 2, _ => exact ⟨t, rest.modify j _, rfl, List.length_modify ..⟩

/-- Settles O54: the length byte is kept, so the frame ends where it did, and the check fails. -/
theorem flippedBitIsDropped : Obligations.FlippedBitIsDropped := by
  unfold Obligations.FlippedBitIsDropped
  intro s ty data k hlegal hpoly hs hdata hk hlength
  obtain ⟨hmax, -⟩ := (Config.legal_iff s.cfg).1 hlegal
  have hn := lengthByte_toNat hmax hdata
  have hwrong := singleBitErrorsDetected s.cfg (ty :: BitVec.ofNat 8 data.length :: data) k hpoly (by simp; omega)
  obtain ⟨ty', rest, hflip, hrest⟩ := flipBit_outside_second ty (BitVec.ofNat 8 data.length)
    (data ++ [crcLo (crc16 s.cfg _), crcHi (crc16 s.cfg _)]) hlength
  rw [appendCrc, List.cons_append, List.cons_append, hflip] at hwrong ⊢
  obtain rfl | ⟨body, b, rfl⟩ := rest.eq_nil_or_concat'
  · simp at hrest
  have hbody : body.length = (BitVec.ofNat 8 data.length : Byte).toNat + 1 := by simp at hrest; omega
  obtain ⟨r, hawaits, hactions, hfed⟩ := feed_to_last (w := ty' :: BitVec.ofNat 8 data.length :: body) (b := b) hmax
    (.type hs) (takeFrame_of_partial (by omega) (by omega))
  obtain ⟨r', hop, -, hdropped⟩ := hawaits.rxByte_last (b := b) hmax hbody
  rw [hwrong] at hdropped
  obtain ⟨x, hx, rfl⟩ := hdropped
  have hlast : onRx (rxByte b) { s with rx := r } = .next { s with rx := x.drop .badCrc } :=
    onRx_eq_next.2 ⟨_, hop, rfl⟩
  refine ⟨{ s with rx := x.drop .badCrc }, ?feed, ?actions, rfl, rfl, rfl⟩
  case feed => exact hfed.trans (by rw [hlast, andThen_next]; rfl)
  case actions => rw [RxSide.drop_actions, hx, hactions]

end Sys2Proof.Machine
end

section
/-! SUPPORT. The framer as the function `parse` of the bytes received (R120). -/

namespace Sys2Proof.Machine

/-! ### Delivered packets -/

theorem delivered_of_drop {r r' : RxSide} {d : DropReason} (h : r'.actions = r.actions ++ [.drop d]) :
    r'.delivered = r.delivered := by
  simp [RxSide.delivered, h]

theorem delivered_of_deliver {r r' : RxSide} {p : Packet} (h : r'.actions = r.actions ++ [.deliver p]) :
    r'.delivered = r.delivered ++ [p] := by
  simp [RxSide.delivered, h]

/-- The byte that ends a frame: the packet of the frame is offered, or there is none and a type byte is awaited. -/
theorem RxSide.Awaits.rxByte_end {c : Config} {r : RxSide} {u left : List Byte} {b : Byte} {packets : List Packet}
    (h : r.Awaits c u) (hmax : c.maxData ≤ 22) (hend : takeFrame c (u ++ [b]) = some (packets, left)) :
    left = [] ∧ ∃ r', rxByte b c r = .ok r' ∧
      (r'.state = .awaitType ∧ packets = [] ∧ r'.delivered = r.delivered ∨
        r'.state = .complete ∧ packets = [r'.packet c] ∧ r'.actions = r.actions) := by
  cases h with
  | type => cases hend
  | @length t hs hcnt hheld =>
    have hb : c.maxData < b.toNat := by
      by_contra hb
      rw [List.singleton_append, takeFrame_of_partial (not_lt.1 hb) (by simp)] at hend
      cases hend
    rw [List.singleton_append, takeFrame_of_illegal_length hb] at hend
    cases hend
    exact ⟨rfl, _, (RxSide.Awaits.length hs hcnt hheld).rxByte_illegal_length hb, .inl ⟨rfl, rfl, delivered_of_drop rfl⟩⟩
  | @body t n rest hs hcnt hheld hn hpart =>
    have hlast : rest.length = n.toNat + 1 := by
      by_contra hmore
      rw [List.cons_append, List.cons_append, takeFrame_of_partial hn (by simp; omega)] at hend
      cases hend
    have hlen : (rest ++ [b]).length = n.toNat + 2 := by simp [hlast]
    obtain ⟨r', hop, -, hjudged⟩ := (RxSide.Awaits.body hs hcnt hheld hn hpart).rxByte_last (b := b) hmax hlast
    rw [List.cons_append, List.cons_append, takeFrame_of_whole hn hlen.ge, List.take_of_length_le hlen.le,
      List.drop_of_length_le hlen.le] at hend
    cases hv : (stripAndVerify c (t :: n :: (rest ++ [b]))).2 <;> rw [hv] at hend hjudged <;> cases hend
    · obtain ⟨x, hx, rfl⟩ := hjudged
      exact ⟨rfl, _, hop, .inl ⟨rfl, rfl, delivered_of_drop (by rw [RxSide.drop_actions, hx])⟩⟩
    · obtain ⟨hstate, hpacket, hactions⟩ := hjudged
      exact ⟨rfl, _, hop, .inr ⟨hstate, by rw [hpacket]; rfl, hactions⟩⟩

/-! ### The framer -/

/-- A waiting packet is accepted before the next byte, or at the end. -/
theorem feed_of_complete {s : State} (hs : s.rx.state = .complete) (bytes : List Byte) :
    ∃ r, feed bytes s = feed bytes { s with rx := r } ∧ r.state = .awaitType ∧
      r.actions = s.rx.actions ++ [.deliver (s.rx.packet s.cfg)] := by
  obtain ⟨r, hr, hstate, hactions⟩ : ∃ r, rxAccept s.cfg s.rx = .ok r ∧ r.state = .awaitType ∧
      r.actions = s.rx.actions ++ [.deliver (s.rx.packet s.cfg)] := ⟨_, rxAccept_eq_ok.2 ⟨hs, rfl⟩, rfl, rfl⟩
  have haccept : acceptIfComplete s = .next { s with rx := r } :=
    (if_pos (by simp [State.pktValid, hs])).trans (onRx_eq_next.2 ⟨r, hr, rfl⟩)
  have hidle := acceptIfComplete_of_awaits (s := { s with rx := r }) (.type hstate)
  refine ⟨r, ?_, hstate, hactions⟩
  cases bytes with
  | nil => exact haccept.trans hidle.symm
  | cons b bs => rw [feed, feed, haccept, hidle]

/-- Feeding the framer from within a packet: it delivers what `parse` finds in the bytes held and fed together. -/
theorem feed_of_awaits {s : State} {u : List Byte} (hmax : s.cfg.maxData ≤ 22) (h : s.rx.Awaits s.cfg u)
    (bytes : List Byte) :
    ∃ r, feed bytes s = .next { s with rx := r } ∧ r.delivered = s.rx.delivered ++ parse s.cfg (u ++ bytes) ∧
      r.Awaits s.cfg (leftover s.cfg (u ++ bytes)) := by
  induction bytes generalizing s u with
  | nil =>
    obtain ⟨hparse, hleft⟩ := parse_of_no_frame h.takeFrame_eq_none
    exact ⟨s.rx, acceptIfComplete_of_awaits h, by simp [hparse], by simpa [hleft] using h⟩
  | cons b bs ih =>
    rw [List.append_cons]
    cases hframe : takeFrame s.cfg (u ++ [b]) with
    | none =>
      obtain ⟨r, hr, hawaits, hactions, -⟩ := h.rxByte_more hmax hframe
      have hfirst : onRx (rxByte b) s = .next { s with rx := r } := onRx_eq_next.2 ⟨r, hr, rfl⟩
      obtain ⟨r', hfed, hdelivered, hawaits'⟩ := ih (s := { s with rx := r }) hmax hawaits
      refine ⟨r', by rw [feed_cons_of_awaits h, hfirst, andThen_next, hfed], ?_, hawaits'⟩
      rw [hdelivered, RxSide.delivered, hactions, RxSide.delivered]
    | some frame =>
      obtain ⟨packets, left⟩ := frame
      obtain ⟨rfl, r, hr, hends⟩ := h.rxByte_end hmax hframe
      have hfirst : onRx (rxByte b) s = .next { s with rx := r } := onRx_eq_next.2 ⟨r, hr, rfl⟩
      obtain ⟨hparse, hleft⟩ := parse_of_frame (takeFrame_append hframe bs)
      rw [feed_cons_of_awaits h, hfirst, andThen_next, hparse, hleft]
      rcases hends with ⟨hs, rfl, hdelivered⟩ | ⟨hs, rfl, hactions⟩
      · obtain ⟨r', hfed, hdelivered', hawaits'⟩ := ih (s := { s with rx := r }) hmax (.type hs)
        exact ⟨r', hfed, by rw [hdelivered', hdelivered]; rfl, hawaits'⟩
      · obtain ⟨r', haccept, hs', hactions'⟩ := feed_of_complete (s := { s with rx := r }) hs bs
        obtain ⟨r'', hfed, hdelivered, hawaits'⟩ := ih (s := { s with rx := r' }) hmax (.type hs')
        have hp := delivered_of_deliver hactions'
        refine ⟨r'', haccept.trans hfed, ?_, hawaits'⟩
        rw [hdelivered, hp, RxSide.delivered, RxSide.delivered, hactions, List.append_assoc]

/-- Settles O51: between frames nothing is held, so what is fed is all that `parse` sees. -/
theorem framerIsParse : Obligations.FramerIsParse := by
  unfold Obligations.FramerIsParse
  refine ⟨fun s bytes hlegal hs => ?framer, fun c => ⟨fun bytes h => ?short, fun t n rest => ⟨fun hn => ?illegal,
    fun hn hr => ?part, fun hn hr => ?whole⟩⟩⟩
  case framer =>
    obtain ⟨hmax, -⟩ := (Config.legal_iff s.cfg).1 hlegal
    obtain ⟨r, hfed, hdelivered, hawaits⟩ := feed_of_awaits hmax (.type hs) bytes
    rw [List.nil_append] at hdelivered hawaits
    refine ⟨{ s with rx := r }, hfed, hdelivered, rfl, ?_⟩
    generalize leftover s.cfg bytes = held at hawaits
    cases hawaits with
    | type hs' => exact ⟨fun _ => hs', fun hne => absurd rfl hne⟩
    | length hs' _ hheld => exact ⟨nofun, fun _ => ⟨.inl hs', hheld⟩⟩
    | body hs' _ hheld => exact ⟨nofun, fun _ => ⟨.inr hs', hheld⟩⟩
  case short => exact (parse_of_no_frame (takeFrame_of_short h)).1
  case illegal => exact (parse_of_frame (takeFrame_of_illegal_length hn rest)).1
  case part => exact (parse_of_no_frame (takeFrame_of_partial hn hr)).1
  case whole => exact (parse_of_frame (takeFrame_of_whole hn hr)).1

end Sys2Proof.Machine
end

section
/-! SUPPORT. What a type byte and a payload mean: the class tag (R140) and the readings of the named reports (R145). -/

namespace Sys2Proof.Machine

/-! ### The class tag -/

theorem typeClass_toNat (t : Byte) : (typeClass t).toNat = t.toNat / 64 := by
  rw [typeClass, BitVec.extractLsb'_toNat, Nat.shiftRight_eq_div_pow]
  omega

/-- Settles O5: the class tag is the type byte's quotient by 64. -/
theorem reportsAreClassTwo : Obligations.ReportsAreClassTwo := by
  unfold Obligations.ReportsAreClassTwo
  intro c t hclass
  have htwo : (0b10 : BitVec 2).toNat = 2 := rfl
  rw [isReport, beq_iff_eq, hclass, ← BitVec.toNat_inj, typeClass_toNat, htwo]
  omega

/-! ### The named reports -/

theorem readReport_key (k : Byte) : readReport 0x80 [k] = some (readKey k) := rfl

theorem readReport_fan (a b c d : Byte) : readReport 0x81 [a, b, c, d] = some (readFan a b c d) := rfl

theorem readReport_temperature (a b c d : Byte) : readReport 0x82 [a, b, c, d] = some (readTemperature a b c d) := rfl

theorem readKey_of_unknown {k : Byte} (h : k.toNat = 0 ∨ 12 < k.toNat) : readKey k = .unknownKey := if_pos h

theorem readKey_of_pressed {k : Byte} (h : 1 ≤ k.toNat ∧ k.toNat ≤ 6) : readKey k = .keyPressed k.toNat :=
  (if_neg (by omega)).trans (if_pos h.right)

theorem readKey_of_released {k : Byte} (h : 7 ≤ k.toNat ∧ k.toNat ≤ 12) : readKey k = .keyReleased (k.toNat - 6) :=
  (if_neg (by omega)).trans (if_neg (by omega))

/-- Settles O60: each reading is one branch of its report's reader. -/
theorem reportReadings : Obligations.ReportReadings := by
  unfold Obligations.ReportReadings
  refine ⟨fun k => ?key, fun a b c d => ?quadruple⟩
  case key =>
    simp only [readReport_key, Option.some_inj]
    exact ⟨readKey_of_pressed, readKey_of_released, readKey_of_unknown⟩
  case quadruple =>
    simp only [readReport_fan, readReport_temperature, Option.some_inj]
    exact ⟨rfl, fun h => if_neg h, rfl, fun h => if_neg h⟩

end Sys2Proof.Machine
end

section
/-! SUPPORT. A request of any type: one TX_START (R142, R160, R164). -/

namespace Sys2Proof.Machine

/-- The bytes before the CRC of a request whose length byte counts its payload (R160). -/
theorem requestBody_of_length {code plen : Byte} {payload : List Byte} (h : plen.toNat = payload.length) :
    requestBody code plen payload = code :: plen :: payload := by
  rw [requestBody, h, List.take_length]

/-- Settles O38: TX_START writes the request and its CRC from `tx_buf[0]` on. -/
theorem requestOfAnyTypeIsSent : Obligations.RequestOfAnyTypeIsSent := by
  unfold Obligations.RequestOfAnyTypeIsSent
  intro i ty payload s htype htransfer hlegal hs hpayload
  obtain ⟨hmax, -⟩ := (Config.legal_iff s.cfg).1 hlegal
  have hplen : (BitVec.ofNat 8 payload.length : Byte).toNat = payload.length := lengthByte_toNat hmax hpayload
  have hstart := (txStart_eq_ok (code := ty) (payload := payload)).2 ⟨hs, .inr ⟨hplen.trans_le hpayload, rfl⟩⟩
  rw [requestBody_of_length (code := ty) hplen] at hstart
  refine ⟨_, (exec_transfer htype htransfer s).trans (onTx_eq_next.2 ⟨_, hstart, rfl⟩), rfl, rfl, ?len, ?packet, ?above,
    rfl, rfl, rfl, rfl, rfl, rfl⟩
  case len => exact (txLen_toNat _ (by omega)).trans (by rw [hplen])
  case packet =>
    have hwrite := Buffer.slice_write s.tx.buf (appendCrc s.cfg (ty :: BitVec.ofNat 8 payload.length :: payload))
      (by simp; omega)
    simpa using hwrite
  case above =>
    intro k hk
    exact (Buffer.byte_write _ _ _ _ (by simp; omega)).trans (if_neg (by simp; omega))

end Sys2Proof.Machine
end

section
/-! SUPPORT. A packet of any type from the device, with its right CRC: what its bytes leave of the receive side
(R111 to R113, R140, R147). -/

namespace Sys2Proof.Machine

/-! ### RX_BYTE in each `rx_state` that takes a byte -/

section

variable {c : Config} {r : RxSide} (b : Byte)

theorem rxByte_of_awaitType (h : r.state = .awaitType) : rxByte b c r = rxByteType b c r := by rw [rxByte, h]

theorem rxByte_of_awaitLength (h : r.state = .awaitLength) : rxByte b c r = rxByteLength b c r := by rw [rxByte, h]

theorem rxByte_of_awaitBody (h : r.state = .awaitBody) : rxByte b c r = rxByteBody b c r := by rw [rxByte, h]

end

/-! ### The frame of the bytes of one packet -/

/-- `r'` is `r` after bytes of one packet: they are held, and the buffer registers above them and the registers of the drop
port keep their values (R13, R17). -/
structure RxSide.Holding (r : RxSide) (bytes : List Byte) (r' : RxSide) : Prop where
  held : r'.held = bytes
  above : ∀ k, bytes.length ≤ k → r'.buf.byte k = r.buf.byte k
  dropValid : r'.dropValid = r.dropValid
  dropReason : r'.dropReason = r.dropReason

/-- More bytes of the packet. -/
theorem RxSide.Holding.trans {r r' r'' : RxSide} {u w : List Byte} (h : r.Holding u r') (h' : r'.Holding (u ++ w) r'') :
    r.Holding (u ++ w) r'' where
  held := h'.held
  above k hk := (h'.above k hk).trans (h.above k (by simp at hk; omega))
  dropValid := h'.dropValid.trans h.dropValid
  dropReason := h'.dropReason.trans h.dropReason

/-- A rising edge clears the pulse on both sides of the comparison. -/
theorem RxSide.Holding.clearPulse {r r' : RxSide} {u : List Byte} (h : r.Holding u r') :
    r.clearPulse.Holding u r'.clearPulse where
  held := h.held
  above := h.above
  dropValid := rfl
  dropReason := h.dropReason

/-- The next byte put in its place. -/
theorem RxSide.holding_of_put {r r' : RxSide} {u : List Byte} {b : Byte} (hlt : u.length < 26)
    (hheld : r.buf.slice 0 u.length = u) (hbuf : r'.buf = r.buf.put u.length b) (hcnt : r'.cnt.toNat = u.length + 1)
    (hvalid : r'.dropValid = r.dropValid) (hreason : r'.dropReason = r.dropReason) : r.Holding (u ++ [b]) r' where
  held := by rw [RxSide.held, hbuf, hcnt, Buffer.slice_put _ _ hlt, hheld]
  above k hk := by rw [hbuf, Buffer.byte_put_other _ _ (by simp at hk; omega)]
  dropValid := hvalid
  dropReason := hreason

theorem RxSide.Awaits.state_ne_awaitType {c : Config} {r : RxSide} {u : List Byte} (h : r.Awaits c u) (hu : u ≠ []) :
    r.state ≠ .awaitType := by
  cases h with
  | type => exact absurd rfl hu
  | length hs | body hs => simp [hs]

/-- The next byte of a packet is held after the others, unless the packet is dropped with it (R111 to R113). -/
theorem RxSide.Awaits.holding {c : Config} {r r' : RxSide} {u : List Byte} {b : Byte} (h : r.Awaits c u)
    (hop : rxByte b c r = .ok r') (hkept : r'.state ≠ .awaitType) : r.Holding (u ++ [b]) r' := by
  cases h with
  | type hs =>
    rw [rxByte_of_awaitType b hs] at hop
    obtain ⟨-, rfl⟩ := rxByteType_eq_ok.1 hop
    exact RxSide.holding_of_put (by decide) (Buffer.slice_self _ 0) rfl rfl rfl rfl
  | length hs hcnt hheld =>
    rw [rxByte_of_awaitLength b hs] at hop
    rw [RxSide.held, hcnt] at hheld
    obtain ⟨-, ⟨-, rfl⟩ | ⟨-, rfl⟩⟩ := rxByteLength_eq_ok.1 hop
    · exact absurd rfl hkept
    · exact RxSide.holding_of_put (by simp) hheld rfl rfl rfl rfl
  | body hs hcnt hheld =>
    rw [rxByte_of_awaitBody b hs] at hop
    rw [RxSide.held] at hheld
    obtain ⟨-, hlt, rfl⟩ := rxByteBody_eq_ok.1 hop
    have hstored := r.store_cnt_toNat b hlt
    rw [hcnt] at hheld hlt hstored
    rcases RxSide.judge_cases c (r.store b) with ⟨-, hjudge⟩ | ⟨-, -, hjudge⟩ | ⟨-, -, hjudge⟩ <;> rw [hjudge] at hkept ⊢
    · exact RxSide.holding_of_put hlt hheld (by rw [RxSide.store_buf, hcnt]; rfl) hstored rfl rfl
    · exact RxSide.holding_of_put hlt hheld (by rw [RxSide.store_buf, hcnt]; rfl) hstored rfl rfl
    · exact absurd rfl hkept

/-- Bytes up to one that does not drop the packet. -/
theorem receiveBytes_holding {s t : State} {u w : List Byte} {b : Byte} (hmax : s.cfg.maxData ≤ 22)
    (h : s.rx.Awaits s.cfg u) (hpart : takeFrame s.cfg (u ++ w) = none) (hrun : receiveBytes (w ++ [b]) s = .next t)
    (hkept : t.rx.state ≠ .awaitType) : s.rx.clearPulse.Holding (u ++ (w ++ [b])) t.rx := by
  induction w generalizing s u with
  | nil =>
    obtain ⟨s', hlast, hend⟩ := andThen_eq_next.1 hrun
    obtain ⟨r, hop, rfl⟩ := onRx_eq_next.1 hlast
    cases hend
    exact h.clearPulse.holding hop hkept
  | cons x w ih =>
    rw [List.append_cons] at hpart
    obtain ⟨r, hop, hawaits, -⟩ := h.clearPulse.rxByte_more hmax (takeFrame_eq_none_of_append hpart)
    rw [List.cons_append, receiveBytes_cons_of_ok hop] at hrun
    have hfirst := h.clearPulse.holding hop (hawaits.state_ne_awaitType (by simp))
    have hrest := ih (s := { s with rx := r, tx := s.tx.clearPulse }) hmax hawaits hpart hrun
    rw [List.cons_append, List.append_cons u x]
    exact hfirst.clearPulse.trans hrest

/-! ### The packet outputs -/

theorem State.pktOut_of_complete {s : State} (h : s.rx.state = .complete) : s.pktOut = some (s.rx.packet s.cfg) :=
  if_pos (by simp [State.pktValid, h])

/-- The packet that the bytes of a packet word deliver has the word's data. -/
theorem framePacket_data {c : Config} {data : List Byte} (hmax : c.maxData ≤ 22) (hdata : data.length ≤ c.maxData)
    (ty : Byte) (tail : List Byte) : (framePacket c ty (BitVec.ofNat 8 data.length) (data ++ tail)).data = data := by
  rw [framePacket, lengthByte_toNat hmax hdata, List.take_left]

theorem framePacket_len {c : Config} {data : List Byte} (ty : Byte) (rest : List Byte) :
    (framePacket c ty (BitVec.ofNat 8 data.length) rest).len = BitVec.ofNat 5 data.length := by
  rw [framePacket]
  simp

/-- A packet with its right CRC is held, verified, and waits in `COMPLETE` (R113). -/
theorem receiveBytes_packet {s : State} {ty : Byte} {data : List Byte} {crc : Half} (hmax : s.cfg.maxData ≤ 22)
    (hs : s.rx.state = .awaitType) (hdata : data.length ≤ s.cfg.maxData)
    (hcrc : crc = crc16 s.cfg (ty :: BitVec.ofNat 8 data.length :: data)) :
    ∃ r, receiveBytes (encodeTransfer ty (.receive data crc)) s = .next { s with rx := r, tx := s.tx.clearPulse } ∧
      r.state = .complete ∧
      r.packet s.cfg = framePacket s.cfg ty (BitVec.ofNat 8 data.length) (data ++ [crcLo crc, crcHi crc]) ∧
      r.actions = s.rx.actions ∧ r.timer = s.cfg.timeoutTicks ∧
      s.rx.clearPulse.Holding (encodeTransfer ty (.receive data crc)) r := by
  have hbytes : encodeTransfer ty (.receive data crc) =
      (ty :: BitVec.ofNat 8 data.length :: (data ++ [crcLo crc])) ++ [crcHi crc] := by simp [encodeTransfer]
  have hright : (stripAndVerify s.cfg (ty :: BitVec.ofNat 8 data.length :: (data ++ [crcLo crc] ++ [crcHi crc]))).2 =
      true := by
    have hpair := congrArg Prod.snd (checksumRoundTrip s.cfg (ty :: BitVec.ofNat 8 data.length :: data))
    rw [appendCrc, ← hcrc] at hpair
    simpa using hpair
  have hpart := takeFrame_without_last_byte hmax hdata ty (crcLo crc)
  obtain ⟨r, hawaits, hactions, htimer, hlast⟩ := receiveBytes_to_last (b := crcHi crc) hmax (.type hs) hpart
  obtain ⟨r', hop, htimer', hcomplete⟩ := hawaits.rxByte_last (b := crcHi crc) hmax (length_without_last_byte hmax hdata _)
  rw [hright] at hcomplete
  obtain ⟨hstate, hpacket, hactions'⟩ := hcomplete
  have hrun : receiveBytes (encodeTransfer ty (.receive data crc)) s = .next { s with rx := r', tx := s.tx.clearPulse } := by
    rw [hbytes, hlast]
    exact onRx_eq_next.2 ⟨r', hop, rfl⟩
  refine ⟨r', hrun, hstate, ?packet, hactions'.trans hactions, ?timer, ?holding⟩
  case packet => simpa using hpacket
  case timer => simpa using htimer'.trans htimer
  case holding =>
    rw [hbytes] at hrun ⊢
    exact receiveBytes_holding hmax (.type hs) hpart hrun (by simp [hstate])

/-- Settles O40: the outputs of the packet show the frame that is held. -/
theorem packetOfAnyTypeIsOffered : Obligations.PacketOfAnyTypeIsOffered := by
  unfold Obligations.PacketOfAnyTypeIsOffered
  intro i ty data crc s htype htransfer hlegal hs hdata hcrc
  obtain ⟨hmax, -⟩ := (Config.legal_iff s.cfg).1 hlegal
  obtain ⟨r, hrun, hstate, hpacket, hactions, htimer, hheld, habove, hvalid, hreason⟩ :=
    receiveBytes_packet hmax hs hdata hcrc
  have hout : State.pktOut { s with rx := r, tx := s.tx.clearPulse } = some (framePacket s.cfg ty _ _) :=
    (State.pktOut_of_complete hstate).trans (congrArg some hpacket)
  refine ⟨{ s with rx := r, tx := s.tx.clearPulse }, (exec_packet ⟨htype, htransfer⟩ rfl s).trans hrun, hstate, ?type, ?len,
    ?data, ?report, hheld, ?above, htimer, hvalid, hreason, hactions, rfl, rfl, rfl⟩
  case type => rw [State.pktType, hout]; rfl
  case len => rw [State.pktLen, hout, Option.map_some, framePacket_len]
  case data => intro k; rw [State.pktData, hout, Option.bind_some, framePacket_data hmax hdata]
  case report => rw [State.pktIsReport, hout]; rfl
  case above => exact fun k hk => habove k (by simp [encodeTransfer]; omega)

end Sys2Proof.Machine
end

section
/-! SUPPORT. The three events of the transmit framer, each with its whole effect (R160 to R162, R204, R205). -/

namespace Sys2Proof.Machine

/-! ### TX_START -/

section

variable {code plen : Byte} {payload : List Byte}

/-- TX_START with a payload above `MAX_DATA` only reports it (R204). -/
theorem exec_txStart_of_oversize {s : State} (hs : s.tx.state = .idle) (hlarge : s.cfg.maxData < plen.toNat) :
    exec (.txStart code plen payload) s = .next { s with tx := s.tx.finish .payloadTooLarge } :=
  onTx_eq_next.2 ⟨_, txStart_eq_ok.2 ⟨hs, .inl ⟨hlarge, rfl⟩⟩, rfl⟩

variable (hp : plen.toNat ≤ 22) (hpayload : plen.toNat ≤ payload.length)
include hp hpayload

/-- The packet that TX_START writes is what `tx_buf[0 .. plen + 4)` then holds. -/
theorem Buffer.slice_write_packet (buf : Buffer) (c : Config) :
    (buf.write 0 (appendCrc c (requestBody code plen payload))).slice 0 (plen.toNat + 4) =
      appendCrc c (requestBody code plen payload) := by
  have hlen := appendCrc_requestBody_length c (code := code) hpayload
  rw [← hlen]
  exact Buffer.slice_write buf _ (by omega)

/-- TX_START leaves the registers above the packet (assumption 21). -/
theorem Buffer.byte_write_above_packet (buf : Buffer) (c : Config) {k : Nat} (hk : plen.toNat + 4 ≤ k) :
    (buf.write 0 (appendCrc c (requestBody code plen payload))).byte k = buf.byte k := by
  have hlen := appendCrc_requestBody_length c (code := code) hpayload
  exact (Buffer.byte_write _ _ _ _ (by omega)).trans (if_neg (by omega))

end

/-- Settles O33: the two arms of R160. -/
theorem startBuildsThePacket : Obligations.StartBuildsThePacket := by
  unfold Obligations.StartBuildsThePacket
  intro code plen payload s hlegal hpayload hs
  obtain ⟨hmax, -⟩ := (Config.legal_iff s.cfg).1 hlegal
  obtain hlarge | hfits := lt_or_ge s.cfg.maxData plen.toNat
  · exact ⟨_, exec_txStart_of_oversize hs hlarge, fun hfits => absurd hlarge hfits.not_gt, fun _ => rfl, rfl, rfl, rfl⟩
  · have hp : plen.toNat ≤ 22 := hfits.trans hmax
    have hbytes : plen.toNat ≤ payload.length := by omega
    have hstart : exec (.txStart code plen payload) s = .next _ :=
      onTx_eq_next.2 ⟨_, txStart_eq_ok.2 ⟨hs, .inr ⟨hfits, rfl⟩⟩, rfl⟩
    refine ⟨_, hstart, fun _ => ⟨rfl, rfl, ?len, ?packet, ?above, rfl, rfl, rfl⟩,
      fun hlarge => absurd hfits hlarge.not_ge, rfl, rfl, rfl⟩
    case len => exact txLen_toNat plen hp
    case packet => exact Buffer.slice_write_packet hp hbytes s.tx.buf s.cfg
    case above => exact fun _ hk => Buffer.byte_write_above_packet hp hbytes s.tx.buf s.cfg hk

/-- Settles O39: both forms of the row are a TX_START whose `plen` is above `MAX_DATA`. -/
theorem oversizeRequestOfAnyTypeRefused : Obligations.OversizeRequestOfAnyTypeRefused := by
  unfold Obligations.OversizeRequestOfAnyTypeRefused
  intro i ty plen payload s htype hrow hlarge hs
  obtain htransfer | ⟨htransfer, hlength⟩ := hrow
  · exact (exec_transfer htype htransfer s).trans (exec_txStart_of_oversize hs hlarge)
  · have hplen : BitVec.ofNat 8 payload.length = plen := by rw [hlength, BitVec.ofNat_toNat, BitVec.setWidth_eq]
    rw [exec_transfer htype htransfer, transfer, hplen]
    exact exec_txStart_of_oversize hs hlarge

/-! ### TX_BYTE -/

theorem TxSide.emit_stream (t : TxSide) : t.emit.stream = t.stream ++ [t.buf.byte t.idx.toNat] :=
  List.filterMap_append

/-- A status report is no byte of the stream (R42). -/
theorem TxSide.stop_stream (x : TxStatus) (t : TxSide) : (t.stop x).stream = t.stream :=
  List.filterMap_append.trans (List.append_nil _)

/-- Settles O34: R29 (e) keeps `tx_idx` below `tx_len`, so the byte is one of the packet's, the last one or not. -/
theorem byteLeavesInIndexOrder : Obligations.ByteLeavesInIndexOrder := by
  unfold Obligations.ByteLeavesInIndexOrder
  rintro s ⟨-, -, hframe, -⟩ hs
  obtain ⟨-, hhigh, -, hidx, -⟩ := hframe hs
  have hlt : s.tx.idx.toNat < 26 := by omega
  have hsucc := count_succ_toNat s.tx.idx hlt
  obtain hmore | hlast := lt_or_eq_of_le (Nat.succ_le_of_lt hidx)
  · have hbyte : exec .txByte s = .next { s with tx := s.tx.emit } :=
      onTx_eq_next.2 ⟨_, (txByte_more hs hhigh hmore).1, rfl⟩
    exact ⟨_, hbyte, s.tx.emit_stream, fun _ => ⟨hs, hsucc, rfl, rfl, rfl⟩, fun hlast => absurd hlast hmore.ne,
      rfl, rfl, rfl, rfl, rfl⟩
  · have hend : s.tx.idx + 1 = s.tx.len := BitVec.eq_of_toNat_eq (hsucc.trans hlast)
    have hbyte : exec .txByte s = .next { s with tx := s.tx.emit.stop .ok } :=
      onTx_eq_next.2 ⟨_, txByte_eq_ok.2 ⟨hs, hlt, .inl ⟨hend, rfl⟩⟩, rfl⟩
    refine ⟨_, hbyte, (TxSide.stop_stream _ _).trans s.tx.emit_stream, fun hmore => absurd hlast hmore.ne,
      fun _ => ⟨rfl, rfl, rfl, rfl, ?actions⟩, rfl, rfl, rfl, rfl, rfl⟩
    case actions => exact List.append_assoc ..

/-! ### TX_FAIL -/

/-- Settles O35: TX_FAIL is `raise IoError`. -/
theorem failureEndsTheOperation : Obligations.FailureEndsTheOperation := by
  unfold Obligations.FailureEndsTheOperation
  intro s hs
  have hfail : exec .txFail s = .next { s with tx := s.tx.stop .ioError } :=
    onTx_eq_next.2 ⟨_, txFail_eq_ok.2 ⟨hs, rfl⟩, rfl⟩
  exact ⟨_, hfail, rfl, rfl, rfl, rfl, rfl, rfl, rfl, rfl, rfl, rfl⟩

end Sys2Proof.Machine
end

section
/-! SUPPORT. The event vector of a clock cycle (R187): TICK, one event of the receive side and one of the transmit side,
each if the ports ask for it. -/

namespace Sys2Proof.Machine

/-! ### The bits of the vector -/

/-- R187's formula for each event. -/
def PortIn.asks (p : PortIn) (s : State) : Event → Bool
  | .reset => p.rst
  | .tick => p.tick
  | .pktAccept => s.pktValid && p.pktReady
  | .rxByte => p.rxValid && s.rxReady
  | .rxClose => p.rxClosed && s.rxReady && !p.rxValid
  | .txStart => p.txqValid && s.txqReady
  | .txFail => s.txValid && p.txFail
  | .txByte => s.txValid && p.txReady && !p.txFail

theorem vector_getLsbD_bit (p : PortIn) (s : State) (e : Event) : (p.vector s).ev.getLsbD e.bit = p.asks s e := by
  refine BitVec.getLsbD_ofBoolListLE.trans ?_
  cases e <;> rfl

theorem events_of_rst {p : PortIn} (hrst : p.rst = true) (s : State) : (p.vector s).events = [.reset] :=
  events_of_reset ((vector_getLsbD_bit p s .reset).trans hrst)

/-- What a port cycle asks for is enabled as the cycle begins. -/
theorem eventEnabled_of_asks {p : PortIn} {s : State} {e : Event} (h : p.asks s e = true) : eventEnabled s e = true := by
  cases e <;> simp_all [PortIn.asks, eventEnabled]

/-! ### The readiness outputs as conditions on the two control states -/

theorem State.rxReady_iff {s : State} : s.rxReady = true ↔ s.rx.state ≠ .complete ∧ s.rx.state ≠ .terminated := by
  cases h : s.rx.state <;> simp [State.rxReady, h]

theorem State.pktValid_iff {s : State} : s.pktValid = true ↔ s.rx.state = .complete := beq_iff_eq

theorem State.txqReady_iff {s : State} : s.txqReady = true ↔ s.tx.state = .idle := beq_iff_eq

theorem State.txValid_iff {s : State} : s.txValid = true ↔ s.tx.state = .send := beq_iff_eq

/-! ### One event of each side -/

/-- TICK, if the cycle has one. -/
def PortIn.tickEvent (p : PortIn) : Option Event := if p.tick then some .tick else none

/-- The event of the receive side besides TICK that the ports ask for, by `rx_state`. -/
def PortIn.rxEvent (p : PortIn) : RxState → Option Event
  | .awaitType | .awaitLength | .awaitBody =>
    if p.rxValid then some .rxByte else if p.rxClosed then some .rxClose else none
  | .complete => if p.pktReady then some .pktAccept else none
  | .terminated => none

/-- The event of the transmit side that the ports ask for, by `tx_state`. -/
def PortIn.txEvent (p : PortIn) : TxState → Option Event
  | .idle => if p.txqValid then some .txStart else none
  | .send => if p.txFail then some .txFail else if p.txReady then some .txByte else none

theorem filter_asks_tick (p : PortIn) (s : State) : [Event.tick].filter (p.asks s) = p.tickEvent.toList := by
  cases h : p.tick <;> simp [PortIn.asks, PortIn.tickEvent, h]

theorem filter_asks_receive (p : PortIn) (s : State) :
    [Event.pktAccept, .rxByte, .rxClose].filter (p.asks s) = (p.rxEvent s.rx.state).toList := by
  cases hs : s.rx.state with
  | awaitType | awaitLength | awaitBody =>
    cases hvalid : p.rxValid <;> cases hclosed : p.rxClosed <;>
      simp [PortIn.asks, PortIn.rxEvent, State.pktValid, State.rxReady, hs, hvalid, hclosed]
  | complete =>
    cases hready : p.pktReady <;> simp [PortIn.asks, PortIn.rxEvent, State.pktValid, State.rxReady, hs, hready]
  | terminated => simp [PortIn.asks, PortIn.rxEvent, State.pktValid, State.rxReady, hs]

theorem filter_asks_transmit (p : PortIn) (s : State) :
    [Event.txStart, .txFail, .txByte].filter (p.asks s) = (p.txEvent s.tx.state).toList := by
  cases hs : s.tx.state with
  | idle =>
    cases hvalid : p.txqValid <;> simp [PortIn.asks, PortIn.txEvent, State.txqReady, State.txValid, hs, hvalid]
  | send =>
    cases hfail : p.txFail <;> cases hready : p.txReady <;>
      simp [PortIn.asks, PortIn.txEvent, State.txqReady, State.txValid, hs, hfail, hready]

theorem events_eq_filter {p : PortIn} (hrst : p.rst = false) (s : State) :
    (p.vector s).events = Event.afterReset.filter (p.asks s) := by
  rw [events_of_not_reset ((vector_getLsbD_bit p s .reset).trans hrst)]
  simp only [vector_getLsbD_bit]

/-- The events of a cycle without `rst`. -/
theorem events_of_not_rst {p : PortIn} (hrst : p.rst = false) (s : State) :
    (p.vector s).events =
      p.tickEvent.toList ++ ((p.rxEvent s.rx.state).toList ++ (p.txEvent s.tx.state).toList) := by
  rw [events_eq_filter hrst, ← filter_asks_tick, ← filter_asks_receive, ← filter_asks_transmit, ← List.filter_append,
    ← List.filter_append]
  rfl

theorem mem_vector_events {p : PortIn} (hrst : p.rst = false) {s : State} {e : Event} :
    e ∈ (p.vector s).events ↔ p.asks s e = true := by
  rw [events_eq_filter hrst, List.mem_filter]
  cases e with
  | reset => simp [Event.afterReset, PortIn.asks, hrst]
  | _ => simp [Event.afterReset]

theorem eventEnabled_of_mem_vector {p : PortIn} {s : State} {e : Event} (h : e ∈ (p.vector s).events) :
    eventEnabled s e = true := by
  cases hrst : p.rst with
  | true =>
    rw [events_of_rst hrst] at h
    rw [List.mem_singleton.1 h]
    rfl
  | false => exact eventEnabled_of_asks ((mem_vector_events hrst).1 h)

/-- Settles O15: without `rst`, the events are TICK and one of each side, by R187's formula. -/
theorem portVectorOneEventEachSide : Obligations.PortVectorOneEventEachSide := by
  unfold Obligations.PortVectorOneEventEachSide
  intro p s
  refine ⟨fun hrst => events_of_rst hrst s, ?_⟩
  cases hrst : p.rst with
  | true =>
    rw [events_of_rst hrst]
    exact ⟨nofun, by decide, by decide, by simp [eventEnabled]⟩
  | false =>
    refine ⟨fun _ => ?formula, ?receive, ?transmit, fun _ => eventEnabled_of_mem_vector⟩
    case formula =>
      simp only [mem_vector_events hrst, PortIn.asks, hrst, Bool.and_eq_true, Bool.not_eq_true', State.rxReady_iff,
        State.pktValid_iff, State.txqReady_iff, State.txValid_iff]
      tauto
    case receive =>
      rw [events_eq_filter hrst, List.filter_comm]
      exact (congrArg List.length (filter_asks_receive p s)).trans_le (Option.length_toList_le ..)
    case transmit =>
      rw [events_eq_filter hrst, List.filter_comm]
      exact (congrArg List.length (filter_asks_transmit p s)).trans_le (Option.length_toList_le ..)

end Sys2Proof.Machine
end

section
/-! SUPPORT. A cycle as a sequence of its events (R187): none of them disables a later one, so each is performed. -/

namespace Sys2Proof.Machine

/-! ### Sequences of events -/

/-- Events one after another, each of which must be enabled. -/
def performEach (v : EventVector) (es : List Event) (s : State) : Result :=
  es.foldl (fun o e => andThen o (perform v e)) (.next s)

theorem foldl_andThen {α : Type} (f : α → State → Result) (as : List α) (o : Result) :
    as.foldl (fun o a => andThen o (f a)) o = andThen o fun s => as.foldl (fun o a => andThen o (f a)) (.next s) := by
  induction as generalizing o with
  | nil => exact (andThen_next_right o).symm
  | cons a as ih =>
    simp only [List.foldl_cons, andThen_next]
    rw [ih, andThen_assoc]
    congr 1
    funext s
    exact (ih _).symm

theorem performEach_cons (v : EventVector) (e : Event) (es : List Event) (s : State) :
    performEach v (e :: es) s = andThen (perform v e s) (performEach v es) :=
  foldl_andThen (perform v) es _

theorem performEach_append (v : EventVector) (es es' : List Event) (s : State) :
    performEach v (es ++ es') s = andThen (performEach v es s) (performEach v es') := by
  rw [performEach, List.foldl_append]
  exact foldl_andThen (perform v) es' _

/-- One event that does not occur when it is not enabled (U12). -/
def performIfEnabled (v : EventVector) (e : Event) (s : State) : Result :=
  if eventEnabled s e then perform v e s else .next s

theorem performAll_eq_foldl (v : EventVector) (es : List Event) (s : State) :
    performAll v es s = es.foldl (fun o e => andThen o (performIfEnabled v e)) (.next s) := by
  induction es generalizing s with
  | nil => rfl
  | cons e es ih =>
    have hrest : performAll v es = fun t => es.foldl (fun o e => andThen o (performIfEnabled v e)) (.next t) := funext ih
    rw [List.foldl_cons, andThen_next, foldl_andThen, ← hrest, performAll, performIfEnabled]
    split
    · rfl
    · rfl

/-- Performing `e` leaves `e'` enabled where it was. -/
def LeavesEnabled (v : EventVector) (e e' : Event) : Prop :=
  ∀ s t, perform v e s = .next t → eventEnabled s e' = true → eventEnabled t e' = true

/-- Where no event of a list disables a later one, none is passed over. -/
theorem performAll_eq_performEach {v : EventVector} {es : List Event} {s : State}
    (hall : ∀ e ∈ es, eventEnabled s e = true) (hleave : es.Pairwise (LeavesEnabled v)) :
    performAll v es s = performEach v es s := by
  induction es generalizing s with
  | nil => rfl
  | cons e es ih =>
    obtain ⟨he, hes⟩ := List.forall_mem_cons.1 hall
    obtain ⟨hfirst, hrest⟩ := List.pairwise_cons.1 hleave
    rw [performAll, if_pos he, performEach_cons]
    cases hp : perform v e s with
    | next t => exact ih (fun x hx => hfirst x hx s t hp (hes x hx)) hrest
    | fault | refused => rfl

theorem performVector_of_some_enabled {v : EventVector} {s : State} (h : ∃ e ∈ v.events, eventEnabled s e = true) :
    performVector v s = performAll v v.events s := by
  unfold performVector
  split
  next hnone => rw [hnone]; rfl
  next e es hes => rw [if_pos (List.any_eq_true.2 (hes ▸ h)), hes]

theorem performVector_of_none_enabled {v : EventVector} {s : State} {e : Event} {es : List Event}
    (hes : v.events = e :: es) (h : ∀ x ∈ v.events, eventEnabled s x = false) :
    performVector v s = .fault (notEnabledFault e) := by
  rw [hes] at h
  have hany : ¬ (e :: es).any (eventEnabled s) = true := by simpa using h
  simp only [performVector, hes]
  exact if_neg hany

theorem performVector_of_no_events {v : EventVector} (h : v.events = []) (s : State) : performVector v s = .next s := by
  rw [performVector, h]

/-! ### The events of a cycle do not disable one another -/

/-- TICK leaves a waiting packet alone, and bytes can still be taken after it (R114). -/
theorem tick_leavesEnabled (v : EventVector) (e : Event) : LeavesEnabled v .tick e := by
  intro s t h he
  obtain ⟨r, hr, rfl⟩ := onRx_eq_next.1 h
  rcases rxTick_eq_ok.1 hr with ⟨hw, -, rfl⟩ | ⟨-, -, rfl⟩ | ⟨-, rfl⟩
  · cases e with
    | pktAccept => simp [RxSide.windowRuns, State.pktValid_iff.1 he] at hw
    | rxByte | rxClose => rfl
    | _ => exact he
  · exact he
  · exact he

theorem tickEvent_eq_some {p : PortIn} {e : Event} (h : p.tickEvent = some e) : e = .tick := by
  grind [PortIn.tickEvent]

theorem rxEvent_eq_some {p : PortIn} {st : RxState} {e : Event} (h : p.rxEvent st = some e) :
    e = .pktAccept ∨ e = .rxByte ∨ e = .rxClose := by
  cases st <;> grind [PortIn.rxEvent]

theorem txEvent_eq_some {p : PortIn} {st : TxState} {e : Event} (h : p.txEvent st = some e) :
    e = .txStart ∨ e = .txFail ∨ e = .txByte := by
  cases st <;> grind [PortIn.txEvent]

/-- The two sides share nothing (R10). -/
theorem rxEvent_leavesEnabled_txEvent {p : PortIn} {st : RxState} {st' : TxState} {e e' : Event}
    (h : p.rxEvent st = some e) (h' : p.txEvent st' = some e') (v : EventVector) : LeavesEnabled v e e' := by
  intro s t ht henabled
  have hframe : t.tx = s.tx := by
    rcases rxEvent_eq_some h with rfl | rfl | rfl
    · exact (onRx_frame ht).1
    · exact (onRx_frame (perform_rxByte v s ▸ ht)).1
    · exact (onRx_frame ht).1
  rcases txEvent_eq_some h' with rfl | rfl | rfl <;>
    simpa only [eventEnabled, State.txqReady, State.txValid, hframe] using henabled

theorem vector_events_leaveEnabled (p : PortIn) (s : State) (v : EventVector) :
    (p.vector s).events.Pairwise (LeavesEnabled v) := by
  cases hrst : p.rst with
  | true =>
    rw [events_of_rst hrst]
    exact List.pairwise_singleton ..
  | false =>
    rw [events_of_not_rst hrst, List.pairwise_append, List.pairwise_append]
    refine ⟨Option.pairwise_toList, ⟨Option.pairwise_toList, Option.pairwise_toList, fun e he e' he' => ?sides⟩,
      fun e he e' _ => ?tick⟩
    case sides => exact rxEvent_leavesEnabled_txEvent (Option.mem_toList.1 he) (Option.mem_toList.1 he') v
    case tick => exact tickEvent_eq_some (Option.mem_toList.1 he) ▸ tick_leavesEnabled v e'

/-- The events of a port cycle are all performed. -/
theorem performVector_vector (p : PortIn) (s : State) :
    performVector (p.vector s) s = performEach (p.vector s) (p.vector s).events s := by
  cases hes : (p.vector s).events with
  | nil => exact performVector_of_no_events hes s
  | cons e es =>
    have hall : ∀ x ∈ (p.vector s).events, eventEnabled s x = true := fun _ => eventEnabled_of_mem_vector
    rw [performVector_of_some_enabled ⟨e, by simp [hes], hall e (by simp [hes])⟩,
      performAll_eq_performEach hall (vector_events_leaveEnabled p s _), hes]

/-! ### The step -/

/-- The state in which the events of a cycle begin: after the rising edge, with the cycle's own input taken. -/
def State.enterCycle (rest : List Input) (s : State) : State := { s.beginCycle with inputs := rest }

theorem step_cycle {s : State} {p : PortIn} {rest : List Input} (hlegal : s.cfg.legal = true)
    (hinputs : s.inputs = .cycle p :: rest) :
    step s = performEach (p.vector s) (p.vector s).events (s.enterCycle rest) := by
  rw [step_of_legal hlegal, runCycle, hinputs]
  exact performVector_vector p (s.enterCycle rest)

theorem quiet_events (s : State) : (PortIn.quiet.vector s).events = [] := by
  rw [events_of_not_rst rfl]
  cases hr : s.rx.state <;> cases ht : s.tx.state <;> rfl

theorem step_no_input {s : State} (hlegal : s.cfg.legal = true) (hinputs : s.inputs = []) :
    step s = .next s.beginCycle := by
  rw [step_of_legal hlegal, runCycle, hinputs]
  exact performVector_of_no_events (quiet_events _) _

theorem step_event_word {s : State} {v : EventVector} {more : List Byte} {rest : List Input} (hlegal : s.cfg.legal = true)
    (hpayload : v.payload.length = 22)
    (hinputs : s.inputs = .word .event (v.ev :: v.rxData :: v.code :: v.plen :: (v.payload ++ more)) :: rest) :
    step s = performVector v (s.enterCycle rest) := by
  have hdecode := decodeVector_append v.ev v.rxData v.code v.plen hpayload more
  rw [step_word hlegal hinputs]
  simp only [runWord, hdecode]
  rfl

/-! ### Operands -/

theorem payloadOf_getD (x : Lanes) {i : Nat} (hi : i < 22) : (payloadOf x).getD i 0 = lane x i := by
  simp [payloadOf, hi]

theorem lane_getLsbD (x : Lanes) (i : Nat) {j : Nat} (hj : j < 8) : (lane x i).getLsbD j = x.getLsbD (8 * i + j) := by
  simp [lane, hj]

/-- Settles O7: no event of a port cycle disables a later one, so each is performed; an event word passes over those that
are not enabled in their turn. -/
theorem cyclePerformsItsEventsInOrder : Obligations.CyclePerformsItsEventsInOrder := by
  unfold Obligations.CyclePerformsItsEventsInOrder
  refine ⟨fun s p rest => step_cycle, fun s => step_no_input, fun v s => ⟨rfl, rfl, rfl, rfl, rfl, rfl, rfl, ?rows⟩,
    fun p s => ⟨rfl, rfl, rfl, ?lanes, fun i j hi hj => ?bits⟩, fun s v more rest hlegal hpayload hinputs => ?word,
    fun s => ?enabled, rfl, rfl, rfl, rfl, rfl, rfl⟩
  case rows =>
    refine ⟨fun hs => ?_, fun hs => ?_, fun hs => ?_⟩ <;> simp only [perform, EventVector.instr, hs]
  case lanes => simp [PortIn.vector, payloadOf]
  case bits => exact (congrArg (·.getLsbD j) (payloadOf_getD _ hi)).trans (lane_getLsbD _ i hj)
  case word =>
    rw [step_event_word hlegal hpayload hinputs]
    exact ⟨fun hnone => performVector_of_no_events hnone _,
      fun hsome => (performVector_of_some_enabled (s := s.enterCycle rest) hsome).trans (performAll_eq_foldl v _ _),
      fun _ _ hes hnone => performVector_of_none_enabled hes hnone⟩
  case enabled =>
    exact ⟨rfl, rfl, State.pktValid_iff, State.rxReady_iff, State.rxReady_iff, State.txqReady_iff, State.txValid_iff,
      State.txValid_iff⟩

end Sys2Proof.Machine
end

section
/-! SUPPORT. A clock cycle side by side (R10, R187): TICK, then one event of the receive side, and one of the transmit
side. -/

namespace Sys2Proof.Machine

/-! ### What a cycle without `rst` does to each side -/

/-- The TICK of a cycle. -/
def PortIn.count (p : PortIn) (c : Config) (r : RxSide) : Except Fault RxSide :=
  if p.tick then rxTick c r else .ok r

/-- The receive-side event of a cycle after its TICK. -/
def PortIn.receive (p : PortIn) (c : Config) (r : RxSide) : Except Fault RxSide :=
  match r.state with
  | .awaitType | .awaitLength | .awaitBody =>
    if p.rxValid then rxByte p.rxData c r else if p.rxClosed then rxClose c r else .ok r
  | .complete => if p.pktReady then rxAccept c r else .ok r
  | .terminated => .ok r

/-- The transmit-side event of a cycle. -/
def PortIn.transmit (p : PortIn) (c : Config) (t : TxSide) : Except Fault TxSide :=
  match t.state with
  | .idle => if p.txqValid then txStart p.txqCode p.txqPlen (payloadOf p.txqPayload) c t else .ok t
  | .send => if p.txFail then Machine.txFail c t else if p.txReady then txByte c t else .ok t

/-- TICK does not change which receive-side event the ports ask for. -/
theorem rxEvent_of_count {p : PortIn} {c : Config} {r r' : RxSide} (h : p.count c r = .ok r') :
    p.rxEvent r'.state = p.rxEvent r.state := by
  unfold PortIn.count at h
  split at h
  · rcases rxTick_eq_ok.1 h with ⟨hw, -, rfl⟩ | ⟨-, -, rfl⟩ | ⟨-, rfl⟩
    · rcases RxSide.windowRuns_eq_true.1 hw with hs | hs <;> rw [hs] <;> rfl
    · rfl
    · rfl
  · cases h; rfl

theorem performEach_tickEvent (p : PortIn) (v : EventVector) (s : State) :
    performEach v p.tickEvent.toList s = onRx p.count s := by
  cases h : p.tick <;> simp only [PortIn.tickEvent, PortIn.count, onRx, h] <;> rfl

theorem performEach_rxEvent (p : PortIn) (s₀ s : State) :
    performEach (p.vector s₀) (p.rxEvent s.rx.state).toList s = onRx p.receive s := by
  cases hs : s.rx.state with
  | awaitType | awaitLength | awaitBody =>
    simp only [PortIn.rxEvent, PortIn.receive, onRx, hs]
    split_ifs
    · exact perform_rxByte (p.vector s₀) s
    · rfl
    · rfl
  | complete =>
    simp only [PortIn.rxEvent, PortIn.receive, onRx, hs]
    split_ifs <;> rfl
  | terminated =>
    simp only [PortIn.receive, onRx, hs]
    rfl

theorem performEach_txEvent (p : PortIn) (s₀ s : State) :
    performEach (p.vector s₀) (p.txEvent s.tx.state).toList s = onTx p.transmit s := by
  cases hs : s.tx.state <;> simp only [PortIn.txEvent, PortIn.transmit, onTx, hs] <;> split_ifs <;> rfl

theorem andThen_congr {o : Result} {f g : State → Result} (h : ∀ a, o = .next a → f a = g a) :
    andThen o f = andThen o g := by
  cases o with
  | next a => exact h a rfl
  | fault | refused => rfl

/-- The step of a cycle without `rst`. -/
theorem step_cycle_sides {s : State} {p : PortIn} {rest : List Input} (hlegal : s.cfg.legal = true)
    (hinputs : s.inputs = .cycle p :: rest) (hrst : p.rst = false) :
    step s = andThen (onRx p.count (s.enterCycle rest)) fun a => andThen (onRx p.receive a) (onTx p.transmit) := by
  rw [step_cycle hlegal hinputs, events_of_not_rst hrst, performEach_append, performEach_tickEvent]
  refine andThen_congr fun a ha => ?_
  have hrx : p.rxEvent s.rx.state = p.rxEvent a.rx.state := by
    obtain ⟨r, hr, rfl⟩ := onRx_eq_next.1 ha
    exact (rxEvent_of_count hr).symm
  rw [performEach_append, hrx, performEach_rxEvent]
  refine andThen_congr fun b hb => ?_
  have htx : s.tx.state = b.tx.state := by
    rw [(onRx_frame hb).1, (onRx_frame ha).1]
    rfl
  rw [htx, performEach_txEvent]

theorem step_cycle_eq_next {s t : State} {p : PortIn} {rest : List Input} (hlegal : s.cfg.legal = true)
    (hinputs : s.inputs = .cycle p :: rest) (hrst : p.rst = false) :
    step s = .next t ↔ ∃ r r' x, p.count s.cfg s.rx.clearPulse = .ok r ∧ p.receive s.cfg r = .ok r' ∧
      p.transmit s.cfg s.tx.clearPulse = .ok x ∧ t = { s with rx := r', tx := x, inputs := rest } := by
  rw [step_cycle_sides hlegal hinputs hrst]
  simp only [andThen_eq_next, onRx_eq_next, onTx_eq_next]
  constructor
  · rintro ⟨_, ⟨r, hr, rfl⟩, _, ⟨r', hr', rfl⟩, x, hx, rfl⟩
    exact ⟨r, r', x, hr, hr', hx, rfl⟩
  · rintro ⟨r, r', x, hr, hr', hx, rfl⟩
    exact ⟨_, ⟨r, hr, rfl⟩, _, ⟨r', hr', rfl⟩, x, hx, rfl⟩

theorem step_cycle_of_rst {s : State} {p : PortIn} {rest : List Input} (hlegal : s.cfg.legal = true)
    (hinputs : s.inputs = .cycle p :: rest) (hrst : p.rst = true) :
    step s = exec .reset (s.enterCycle rest) := by
  rw [step_cycle hlegal hinputs, events_of_rst hrst]
  rfl

theorem legal_of_step {s t : State} (h : step s = .next t) : s.cfg.legal = true := by
  by_contra hlegal
  rw [step_of_not_legal (by simpa using hlegal)] at h
  cases h

/-! ### The handshake (R182) -/

theorem count_of_no_window {p : PortIn} {c : Config} {r : RxSide} (h : r.windowRuns = false) : p.count c r = .ok r := by
  unfold PortIn.count
  split
  · exact rxTick_eq_ok.2 (.inr (.inr ⟨h, rfl⟩))
  · rfl

theorem receive_of_not_accepted {p : PortIn} {c : Config} {r : RxSide} (hs : r.state = .complete)
    (hready : p.pktReady = false) : p.receive c r = .ok r := by
  simp [PortIn.receive, hs, hready]

theorem transmit_of_not_taken {p : PortIn} {c : Config} {t : TxSide} (hs : t.state = .send)
    (hready : p.txReady = false) (hfail : p.txFail = false) : p.transmit c t = .ok t := by
  simp [PortIn.transmit, hs, hready, hfail]

/-- Settles O58: a side whose offer is not taken only meets the rising edge. -/
theorem offeredValuesAreHeld : Obligations.OfferedValuesAreHeld := by
  unfold Obligations.OfferedValuesAreHeld
  intro s t p rest hinputs hrst hstep
  obtain ⟨r, r', x, hcount, hreceive, htransmit, rfl⟩ := (step_cycle_eq_next (legal_of_step hstep) hinputs hrst).1 hstep
  refine ⟨fun hvalid hready => ?packet, fun hvalid hready hfail => ?byte⟩
  case packet =>
    have hs : s.rx.clearPulse.state = .complete := State.pktValid_iff.1 hvalid
    rw [count_of_no_window (RxSide.windowRuns_eq_false.2 (.inr (.inl hs)))] at hcount
    cases hcount
    rw [receive_of_not_accepted hs hready] at hreceive
    cases hreceive
    exact ⟨hvalid, rfl⟩
  case byte =>
    have hs : s.tx.clearPulse.state = .send := State.txValid_iff.1 hvalid
    rw [transmit_of_not_taken hs hready hfail] at htransmit
    cases htransmit
    exact ⟨hvalid, rfl⟩

/-! ### A window that expires in a byte's cycle (D10) -/

/-- R29 (e) keeps `tx_idx` within the buffer. -/
theorem transmit_total (p : PortIn) {c : Config} {t : TxSide} (h : t.FrameOk c) : ∃ x, p.transmit c t = .ok x := by
  cases hs : t.state with
  | idle =>
    simp only [PortIn.transmit, txStart, hs]
    split_ifs <;> exact ⟨_, rfl⟩
  | send =>
    obtain ⟨-, hlen, -, hidx, -⟩ := h hs
    have hlt : t.idx.toNat < bufferSize := by unfold bufferSize; omega
    simp only [PortIn.transmit, Machine.txFail, txByte, hs, hlt]
    split_ifs <;> exact ⟨_, rfl⟩

theorem count_expires {p : PortIn} {c : Config} {r : RxSide} (htick : p.tick = true) (hw : r.windowRuns = true)
    (ht : r.timer ≤ 1) : p.count c r = .ok (r.drop .timeout) := by
  rw [PortIn.count, if_pos htick]
  exact rxTick_eq_ok.2 (.inl ⟨hw, ht, rfl⟩)

theorem receive_of_awaitType {p : PortIn} {c : Config} {r : RxSide} (hvalid : p.rxValid = true)
    (hs : r.state = .awaitType) : p.receive c r = rxByteType p.rxData c r := by
  simp only [PortIn.receive, hs, if_pos hvalid, rxByte_of_awaitType p.rxData hs]

/-- Settles O57: the `Timeout` leaves `AWAIT_TYPE`, in which the byte is a type byte. -/
theorem expiryBeforeTheByteOfItsCycle : Obligations.ExpiryBeforeTheByteOfItsCycle := by
  unfold Obligations.ExpiryBeforeTheByteOfItsCycle
  rintro s p rest ⟨hlegal, -, hframe, -⟩ hinputs hs htimer hrst htick hvalid
  have hw : s.rx.clearPulse.windowRuns = true := RxSide.windowRuns_eq_true.2 hs
  have hcount := count_expires (c := s.cfg) htick hw htimer.le
  have hreceive := (receive_of_awaitType (c := s.cfg) (r := s.rx.clearPulse.drop .timeout) hvalid rfl).trans
    (rxByteType_eq_ok.2 ⟨rfl, rfl⟩)
  obtain ⟨x, hx⟩ := transmit_total p (t := s.tx.clearPulse) hframe
  refine ⟨_, (step_cycle_eq_next hlegal hinputs hrst).2 ⟨_, _, x, hcount, hreceive, hx, rfl⟩, rfl, rfl, ?held, rfl, rfl,
    rfl, rfl⟩
  case held => exact Buffer.slice_put s.rx.buf p.rxData (n := 0) (by decide)

/-! ### The pulse registers (R189) -/

/-- From `r` to `r'` no `Drop` was emitted, and the pulse is as it was. -/
structure RxSide.DropsNothing (r r' : RxSide) : Prop where
  dropped : r'.dropped = r.dropped
  valid : r'.dropValid = r.dropValid
  reason : r'.dropReason = r.dropReason

/-- From `r` to `r'` one `Drop` was emitted, and the pulse shows its reason. -/
structure RxSide.DropsOnce (r r' : RxSide) (d : DropReason) : Prop where
  dropped : r'.dropped = r.dropped ++ [d]
  valid : r'.dropValid = true
  reason : r'.dropReason = d

theorem RxSide.drop_dropsOnce (r : RxSide) (d : DropReason) : r.DropsOnce (r.drop d) d :=
  ⟨List.filterMap_append, rfl, rfl⟩

theorem count_drops {p : PortIn} {c : Config} {r r' : RxSide} (h : p.count c r = .ok r') :
    r.DropsNothing r' ∨ ∃ d, r.DropsOnce r' d ∧ r'.state = .awaitType := by
  unfold PortIn.count at h
  split at h
  · rcases rxTick_eq_ok.1 h with ⟨-, -, rfl⟩ | ⟨-, -, rfl⟩ | ⟨-, rfl⟩
    · exact .inr ⟨_, r.drop_dropsOnce _, rfl⟩
    · exact .inl ⟨rfl, rfl, rfl⟩
    · exact .inl ⟨rfl, rfl, rfl⟩
  · cases h
    exact .inl ⟨rfl, rfl, rfl⟩

theorem rxByte_drops {b : Byte} {c : Config} {r r' : RxSide} (h : rxByte b c r = .ok r') :
    r.DropsNothing r' ∨ ∃ d, r.DropsOnce r' d ∧ r.state ≠ .awaitType := by
  rcases rxByte_eq_ok.1 h with h | h | h
  · obtain ⟨-, rfl⟩ := rxByteType_eq_ok.1 h
    exact .inl ⟨rfl, rfl, rfl⟩
  · obtain ⟨hs, ⟨-, rfl⟩ | ⟨-, rfl⟩⟩ := rxByteLength_eq_ok.1 h
    · exact .inr ⟨_, r.drop_dropsOnce _, by simp [hs]⟩
    · exact .inl ⟨rfl, rfl, rfl⟩
  · obtain ⟨hs, -, rfl⟩ := rxByteBody_eq_ok.1 h
    rcases (r.store b).judge_cases c with ⟨-, hj⟩ | ⟨-, -, hj⟩ | ⟨-, -, hj⟩ <;> rw [hj]
    · exact .inl ⟨rfl, rfl, rfl⟩
    · exact .inl ⟨rfl, rfl, rfl⟩
    · have hdrop := (r.store b).drop_dropsOnce .badCrc
      exact .inr ⟨_, ⟨hdrop.dropped, rfl, rfl⟩, by simp [hs]⟩

theorem receive_eq_ok {p : PortIn} {c : Config} {r r' : RxSide} (h : p.receive c r = .ok r') :
    r' = r ∨ rxByte p.rxData c r = .ok r' ∨ rxClose c r = .ok r' ∨ rxAccept c r = .ok r' := by
  unfold PortIn.receive at h
  split at h <;> grind

theorem receive_drops {p : PortIn} {c : Config} {r r' : RxSide} (h : p.receive c r = .ok r') :
    r.DropsNothing r' ∨ ∃ d, r.DropsOnce r' d ∧ r.state ≠ .awaitType := by
  rcases receive_eq_ok h with rfl | h | h | h
  · exact .inl ⟨rfl, rfl, rfl⟩
  · exact rxByte_drops h
  · obtain ⟨-, rfl⟩ := rxClose_eq_ok.1 h
    exact .inl ⟨rfl, rfl, rfl⟩
  · obtain ⟨-, rfl⟩ := rxAccept_eq_ok.1 h
    exact .inl ⟨List.filterMap_append.trans (List.append_nil _), rfl, rfl⟩

/-- A cycle emits at most one `Drop`: after an expiry the byte is a type byte. -/
theorem count_receive_drops {p : PortIn} {c : Config} {r r' r'' : RxSide} (h : p.count c r = .ok r')
    (h' : p.receive c r' = .ok r'') : r.DropsNothing r'' ∨ ∃ d, r.DropsOnce r'' d := by
  rcases count_drops h with hn | ⟨d, ho, hs⟩ <;> rcases receive_drops h' with hn' | ⟨d', ho', hs'⟩
  · exact .inl ⟨hn'.dropped.trans hn.dropped, hn'.valid.trans hn.valid, hn'.reason.trans hn.reason⟩
  · exact .inr ⟨d', hn.dropped ▸ ho'.dropped, ho'.valid, ho'.reason⟩
  · exact .inr ⟨d, hn'.dropped.trans ho.dropped, hn'.valid.trans ho.valid, hn'.reason.trans ho.reason⟩
  · exact absurd hs hs'

theorem TxSide.finish_reported (x : TxStatus) (t : TxSide) : (t.finish x).reported = t.reported ++ [x] :=
  List.filterMap_append

theorem TxSide.stop_reported (x : TxStatus) (t : TxSide) : (t.stop x).reported = t.reported ++ [x] :=
  List.filterMap_append

theorem TxSide.emit_reported (t : TxSide) : t.emit.reported = t.reported :=
  List.filterMap_append.trans (List.append_nil _)

theorem transmit_eq_ok {p : PortIn} {c : Config} {t t' : TxSide} (h : p.transmit c t = .ok t') :
    t' = t ∨ txStart p.txqCode p.txqPlen (payloadOf p.txqPayload) c t = .ok t' ∨ txFail c t = .ok t' ∨
      txByte c t = .ok t' := by
  unfold PortIn.transmit at h
  split at h <;> grind

/-- A cycle emits at most one `TxDone`. -/
theorem transmit_reports {p : PortIn} {c : Config} {t t' : TxSide} (h : p.transmit c t = .ok t') :
    t'.reported = t.reported ∧ t'.done = t.done ∨
      ∃ x, t'.reported = t.reported ++ [x] ∧ t'.done = true ∧ t'.status = x := by
  rcases transmit_eq_ok h with rfl | h | h | h
  · exact .inl ⟨rfl, rfl⟩
  · obtain ⟨-, ⟨-, rfl⟩ | ⟨-, rfl⟩⟩ := txStart_eq_ok.1 h
    · exact .inr ⟨_, t.finish_reported _, rfl, rfl⟩
    · exact .inl ⟨rfl, rfl⟩
  · obtain ⟨-, rfl⟩ := txFail_eq_ok.1 h
    exact .inr ⟨_, t.stop_reported _, rfl, rfl⟩
  · obtain ⟨-, -, ⟨-, rfl⟩ | ⟨-, rfl⟩⟩ := txByte_eq_ok.1 h
    · exact .inr ⟨_, t.emit_reported ▸ t.emit.stop_reported .ok, rfl, rfl⟩
    · exact .inl ⟨t.emit_reported, rfl⟩

/-- Settles O56: the rising edge clears both pulses, and each side emits at most once before the next. -/
theorem pulsesLastOneCycle : Obligations.PulsesLastOneCycle := by
  unfold Obligations.PulsesLastOneCycle
  intro s t p rest _ hinputs hstep
  have hlegal := legal_of_step hstep
  cases hrst : p.rst with
  | true =>
    rw [step_cycle_of_rst hlegal hinputs hrst] at hstep
    cases hstep
    exact ⟨.inl ⟨rfl, rfl⟩, .inl ⟨rfl, rfl⟩, fun _ => ⟨rfl, rfl⟩⟩
  | false =>
    obtain ⟨r, r', x, hcount, hreceive, htransmit, rfl⟩ := (step_cycle_eq_next hlegal hinputs hrst).1 hstep
    refine ⟨?drop, transmit_reports htransmit, nofun⟩
    rcases count_receive_drops hcount hreceive with h | ⟨d, h⟩
    · exact .inl ⟨h.dropped, h.valid⟩
    · exact .inr ⟨d, h.dropped, h.valid, h.reason⟩

end Sys2Proof.Machine
end

section
/-! SUPPORT. The five errors (60_exceptions.md R201 to R205): what raises each, and that nothing else emits its action. -/

namespace Sys2Proof.Machine

theorem isEvent_cases {i : Instr} (hi : isEvent i = true) :
    i = .reset ∨ isReceiveEvent i = true ∨ isTransmitEvent i = true := by
  simpa [isEvent, or_assoc] using hi

/-! ### The receive side (R201 to R203) -/

/-- In `s` the instruction raises a receive-side error; the last argument is the receive side that the recovery of R209
then starts from, with the offending byte stored where the operation has stored it. -/
inductive RaisesDrop (s : State) : Instr → DropReason → RxSide → Prop
  | badLength {b : Byte} (hs : s.rx.state = .awaitLength) (hlarge : s.cfg.maxData < b.toNat) :
    RaisesDrop s (.rxByteLength b) .badLength s.rx
  | badCrc {b : Byte} (hs : s.rx.state = .awaitBody) (hlt : s.rx.cnt.toNat < 26)
    (hlast : (s.rx.store b).cnt.toNat = ((s.rx.store b).buf.byte 1).toNat + 4)
    (hwrong : (stripAndVerify s.cfg (s.rx.store b).held).2 = false) :
    RaisesDrop s (.rxByteBody b) .badCrc (s.rx.store b)
  | timeout (hw : s.rx.windowRuns = true) (ht : s.rx.timer ≤ 1) : RaisesDrop s .tick .timeout s.rx

theorem RxSide.judge_of_wrong {c : Config} {r : RxSide} (hlast : r.cnt.toNat = (r.buf.byte 1).toNat + 4)
    (hwrong : (stripAndVerify c r.held).2 = false) : r.judge c = r.drop .badCrc := by
  rw [RxSide.judge, if_pos hlast, hwrong, if_neg Bool.false_ne_true]

/-- Raising an error is its recovery, on the receive side alone (R209). -/
theorem RaisesDrop.exec_eq {s : State} {i : Instr} {d : DropReason} {r : RxSide} (h : RaisesDrop s i d r) :
    exec i s = .next { s with rx := r.drop d } := by
  cases h with
  | badLength hs hlarge => exact onRx_eq_next.2 ⟨_, rxByteLength_eq_ok.2 ⟨hs, .inl ⟨hlarge, rfl⟩⟩, rfl⟩
  | badCrc hs hlt hlast hwrong =>
    exact onRx_eq_next.2 ⟨_, rxByteBody_eq_ok.2 ⟨hs, hlt, (RxSide.judge_of_wrong hlast hwrong).symm⟩, rfl⟩
  | timeout hw ht => exact exec_tick_expires hw ht

theorem RaisesDrop.eq_of_next {s t : State} {i : Instr} {d : DropReason} {r : RxSide} (h : RaisesDrop s i d r)
    (hexec : exec i s = .next t) : t = { s with rx := r.drop d } := by
  cases h.exec_eq.symm.trans hexec
  rfl

/-- No step of the operation before the `Drop` emits anything. -/
theorem RaisesDrop.actions_eq {s : State} {i : Instr} {d : DropReason} {r : RxSide} (h : RaisesDrop s i d r) :
    r.actions = s.rx.actions := by
  cases h <;> rfl

/-- A receive-side event that emits a `Drop` raises its error. -/
theorem raisesDrop_of_receiveEvent {i : Instr} {s t : State} {d : DropReason} (hi : isReceiveEvent i = true)
    (h : exec i s = .next t) (hdrop : t.rx.actions = s.rx.actions ++ [.drop d]) : ∃ r, RaisesDrop s i d r := by
  cases i with
  | tick =>
    obtain ⟨r, hr, rfl⟩ := onRx_eq_next.1 h
    obtain ⟨hw, ht, rfl⟩ | ⟨-, -, rfl⟩ | ⟨-, rfl⟩ := rxTick_eq_ok.1 hr
    · obtain rfl : DropReason.timeout = d := by simpa using hdrop
      exact ⟨_, .timeout hw ht⟩
    · simp at hdrop
    · simp at hdrop
  | pktAccept =>
    obtain ⟨r, hr, rfl⟩ := onRx_eq_next.1 h
    obtain ⟨-, rfl⟩ := rxAccept_eq_ok.1 hr
    simp at hdrop
  | rxByteType b =>
    obtain ⟨r, hr, rfl⟩ := onRx_eq_next.1 h
    obtain ⟨-, rfl⟩ := rxByteType_eq_ok.1 hr
    simp at hdrop
  | rxByteLength b =>
    obtain ⟨r, hr, rfl⟩ := onRx_eq_next.1 h
    obtain ⟨hs, ⟨hlarge, rfl⟩ | ⟨-, rfl⟩⟩ := rxByteLength_eq_ok.1 hr
    · obtain rfl : DropReason.badLength = d := by simpa using hdrop
      exact ⟨_, .badLength hs hlarge⟩
    · simp at hdrop
  | rxByteBody b =>
    obtain ⟨r, hr, rfl⟩ := onRx_eq_next.1 h
    obtain ⟨hs, hlt, rfl⟩ := rxByteBody_eq_ok.1 hr
    obtain ⟨-, hj⟩ | ⟨-, -, hj⟩ | ⟨hlast, hwrong, hj⟩ := (s.rx.store b).judge_cases s.cfg
    · simp [hj] at hdrop
    · simp [hj] at hdrop
    · obtain rfl : DropReason.badCrc = d := by simpa [hj] using hdrop
      exact ⟨_, .badCrc hs hlt hlast hwrong⟩
  | rxClose =>
    obtain ⟨r, hr, rfl⟩ := onRx_eq_next.1 h
    obtain ⟨-, rfl⟩ := rxClose_eq_ok.1 hr
    simp at hdrop
  | _ => cases hi

/-- An event emits a `Drop` when and only when it raises the error of that reason. -/
theorem event_drops_iff {i : Instr} {s t : State} {d : DropReason} (hi : isEvent i = true) (h : exec i s = .next t) :
    t.rx.actions = s.rx.actions ++ [.drop d] ↔ ∃ r, RaisesDrop s i d r := by
  constructor
  · intro hdrop
    obtain rfl | hi | hi := isEvent_cases hi
    · cases h
      simp at hdrop
    · exact raisesDrop_of_receiveEvent hi h hdrop
    · obtain ⟨op, hop⟩ := exec_transmitEvent hi
      simp [(onTx_frame (hop ▸ h)).1] at hdrop
  · rintro ⟨r, hr⟩
    rw [hr.eq_of_next h, RxSide.drop_actions, hr.actions_eq]

/-- Settles O27: of the three errors, the one raised by a length byte. -/
theorem badLengthExactlyWhen : Obligations.BadLengthExactlyWhen := by
  unfold Obligations.BadLengthExactlyWhen
  intro i s t hi h
  have hraise := event_drops_iff (d := .badLength) hi h
  refine ⟨hraise.trans ⟨?only, ?when⟩, fun hdrop => ?effect⟩
  case only =>
    rintro ⟨_, hr⟩
    cases hr with
    | badLength hs hlarge => exact ⟨_, rfl, hs, hlarge⟩
  case when =>
    rintro ⟨b, rfl, hs, hlarge⟩
    exact ⟨_, .badLength hs hlarge⟩
  case effect =>
    obtain ⟨r, hr⟩ := hraise.1 hdrop
    rw [hr.eq_of_next h]
    exact ⟨rfl, rfl, rfl, rfl, rfl⟩

/-- Under R29 (a) and (b) the byte just stored was the last when `rx_cnt` had come within one of `rx_buf[1] + 4`, and what
is judged are the held bytes with it. -/
theorem raisesDrop_badCrc_iff {b : Byte} {s : State} (hinv : s.Inv) :
    (∃ r, RaisesDrop s (.rxByteBody b) .badCrc r) ↔ s.rx.state = .awaitBody ∧
      s.rx.cnt.toNat + 1 = (s.rx.buf.byte 1).toNat + 4 ∧ (stripAndVerify s.cfg (s.rx.held ++ [b])).2 = false := by
  obtain ⟨hlegal, hrx, -⟩ := hinv
  constructor
  · rintro ⟨_, hr⟩
    cases hr with
    | badCrc hs hlt hlast hwrong =>
      rw [RxSide.store_cnt_toNat b _ hlt, RxSide.store_byte_one (hrx.cnt_lt_of_awaitBody hlegal hs).1] at hlast
      rw [RxSide.held_store b _ hlt] at hwrong
      exact ⟨hs, hlast, hwrong⟩
  · rintro ⟨hs, hlast, hwrong⟩
    obtain ⟨hlow, hlt⟩ := hrx.cnt_lt_of_awaitBody hlegal hs
    rw [← RxSide.store_cnt_toNat b _ hlt, ← RxSide.store_byte_one hlow] at hlast
    rw [← RxSide.held_store b _ hlt] at hwrong
    exact ⟨_, .badCrc hs hlt hlast hwrong⟩

theorem State.pktOut_of_not_complete {s : State} (h : s.rx.state ≠ .complete) : s.pktOut = none :=
  if_neg (mt State.pktValid_iff.1 h)

/-- Settles O28: of the three errors, the one raised by a body byte; in `AWAIT_TYPE` no packet is shown. -/
theorem badCrcExactlyWhen : Obligations.BadCrcExactlyWhen := by
  unfold Obligations.BadCrcExactlyWhen
  intro i s t hinv hi h
  have hraise := event_drops_iff (d := .badCrc) hi h
  refine ⟨hraise.trans ⟨?only, ?when⟩, fun hdrop => ?effect⟩
  case only =>
    rintro ⟨r, hr⟩
    cases hr with
    | badCrc hs hlt hlast hwrong =>
      exact ⟨_, rfl, (raisesDrop_badCrc_iff hinv).1 ⟨_, .badCrc hs hlt hlast hwrong⟩⟩
  case when =>
    rintro ⟨b, rfl, hcause⟩
    exact (raisesDrop_badCrc_iff hinv).2 hcause
  case effect =>
    obtain ⟨r, hr⟩ := hraise.1 hdrop
    have hdelivered := delivered_of_drop hdrop
    rw [hr.eq_of_next h] at hdelivered ⊢
    exact ⟨rfl, rfl, rfl, rfl, State.pktOut_of_not_complete nofun, hdelivered⟩

/-- Settles O29: of the three errors, the one raised by TICK. -/
theorem timeoutExactlyWhen : Obligations.TimeoutExactlyWhen := by
  unfold Obligations.TimeoutExactlyWhen
  intro i s t hi h
  have hraise := event_drops_iff (d := .timeout) hi h
  refine ⟨hraise.trans ⟨?only, ?when⟩, fun hdrop => ?effect⟩
  case only =>
    rintro ⟨_, hr⟩
    cases hr with
    | timeout hw ht => exact ⟨rfl, RxSide.windowRuns_eq_true.1 hw, ht⟩
  case when =>
    rintro ⟨rfl, hs, ht⟩
    exact ⟨_, .timeout (RxSide.windowRuns_eq_true.2 hs) ht⟩
  case effect =>
    obtain ⟨r, hr⟩ := hraise.1 hdrop
    rw [hr.eq_of_next h]
    cases hr with
    | timeout => exact ⟨rfl, rfl, rfl, rfl, rfl, rfl⟩

/-! ### The transmit side (R204, R205) -/

/-- In `s` the instruction raises a transmit-side error; the last argument is the transmit side after it. -/
inductive RaisesDone (s : State) : Instr → TxStatus → TxSide → Prop
  | payloadTooLarge {code plen : Byte} {payload : List Byte} (hs : s.tx.state = .idle)
    (hlarge : s.cfg.maxData < plen.toNat) :
    RaisesDone s (.txStart code plen payload) .payloadTooLarge (s.tx.finish .payloadTooLarge)
  | ioError (hs : s.tx.state = .send) : RaisesDone s .txFail .ioError (s.tx.stop .ioError)

theorem RaisesDone.exec_eq {s : State} {i : Instr} {x : TxStatus} {u : TxSide} (h : RaisesDone s i x u) :
    exec i s = .next { s with tx := u } := by
  cases h with
  | payloadTooLarge hs hlarge => exact exec_txStart_of_oversize hs hlarge
  | ioError hs => exact onTx_eq_next.2 ⟨_, txFail_eq_ok.2 ⟨hs, rfl⟩, rfl⟩

theorem RaisesDone.eq_of_next {s t : State} {i : Instr} {x : TxStatus} {u : TxSide} (h : RaisesDone s i x u)
    (hexec : exec i s = .next t) : t = { s with tx := u } := by
  cases h.exec_eq.symm.trans hexec
  rfl

theorem RaisesDone.actions_eq {s : State} {i : Instr} {x : TxStatus} {u : TxSide} (h : RaisesDone s i x u) :
    u.actions = s.tx.actions ++ [.txDone x] := by
  cases h <;> rfl

/-- A transmit-side event whose only output is a `TxDone` raises its error: the `TxDone(Ok)` of the last TX_BYTE comes after
the byte (R161). -/
theorem raisesDone_of_transmitEvent {i : Instr} {s t : State} {x : TxStatus} (hi : isTransmitEvent i = true)
    (h : exec i s = .next t) (hdone : t.tx.actions = s.tx.actions ++ [.txDone x]) : ∃ u, RaisesDone s i x u := by
  cases i with
  | txStart code plen payload =>
    obtain ⟨u, hu, rfl⟩ := onTx_eq_next.1 h
    obtain ⟨hs, ⟨hlarge, rfl⟩ | ⟨-, rfl⟩⟩ := txStart_eq_ok.1 hu
    · obtain rfl : TxStatus.payloadTooLarge = x := by simpa using hdone
      exact ⟨_, .payloadTooLarge hs hlarge⟩
    · simp at hdone
  | txFail =>
    obtain ⟨u, hu, rfl⟩ := onTx_eq_next.1 h
    obtain ⟨hs, rfl⟩ := txFail_eq_ok.1 hu
    obtain rfl : TxStatus.ioError = x := by simpa using hdone
    exact ⟨_, .ioError hs⟩
  | txByte =>
    obtain ⟨u, hu, rfl⟩ := onTx_eq_next.1 h
    obtain ⟨-, -, ⟨-, rfl⟩ | ⟨-, rfl⟩⟩ := txByte_eq_ok.1 hu
    · simp at hdone
    · simp at hdone
  | _ => cases hi

/-- An event emits a `TxDone` alone when and only when it raises the error of that status. -/
theorem event_fails_iff {i : Instr} {s t : State} {x : TxStatus} (hi : isEvent i = true) (h : exec i s = .next t) :
    t.tx.actions = s.tx.actions ++ [.txDone x] ↔ ∃ u, RaisesDone s i x u := by
  constructor
  · intro hdone
    obtain rfl | hi | hi := isEvent_cases hi
    · cases h
      simp at hdone
    · obtain ⟨op, hop⟩ := exec_receiveEvent hi
      simp [(onRx_frame (hop ▸ h)).1] at hdone
    · exact raisesDone_of_transmitEvent hi h hdone
  · rintro ⟨u, hu⟩
    rw [hu.eq_of_next h, hu.actions_eq]

theorem TxSide.finish_stream (x : TxStatus) (t : TxSide) : (t.finish x).stream = t.stream :=
  List.filterMap_append.trans (List.append_nil _)

/-- Settles O30: TX_START ran, so it found `TX_IDLE`; the refusal is the report alone. -/
theorem payloadTooLargeExactlyWhen : Obligations.PayloadTooLargeExactlyWhen := by
  unfold Obligations.PayloadTooLargeExactlyWhen
  intro i s t hi h
  have hraise := event_fails_iff (x := .payloadTooLarge) hi h
  refine ⟨hraise.trans ⟨?only, ?when⟩, fun hdone => ?effect⟩
  case only =>
    rintro ⟨_, hu⟩
    cases hu with
    | payloadTooLarge hs hlarge => exact ⟨_, _, _, rfl, hlarge⟩
  case when =>
    rintro ⟨code, plen, payload, rfl, hlarge⟩
    obtain ⟨u, hu, -⟩ := onTx_eq_next.1 h
    exact ⟨_, .payloadTooLarge (txStart_eq_ok.1 hu).1 hlarge⟩
  case effect =>
    obtain ⟨u, hu⟩ := hraise.1 hdone
    rw [hu.eq_of_next h]
    cases hu with
    | payloadTooLarge => exact ⟨rfl, rfl, TxSide.finish_stream _ _, rfl, rfl, rfl, rfl, rfl⟩

/-- Settles O31: TX_FAIL ran, so it found `TX_SEND`; the operation ends with the report alone. -/
theorem ioErrorExactlyWhen : Obligations.IoErrorExactlyWhen := by
  unfold Obligations.IoErrorExactlyWhen
  intro i s t hi h
  have hraise := event_fails_iff (x := .ioError) hi h
  refine ⟨hraise.trans ⟨?only, ?when⟩, fun hdone => ?effect⟩
  case only =>
    rintro ⟨_, hu⟩
    cases hu with
    | ioError => rfl
  case when =>
    rintro rfl
    obtain ⟨u, hu, -⟩ := onTx_eq_next.1 h
    exact ⟨_, .ioError (txFail_eq_ok.1 hu).1⟩
  case effect =>
    obtain ⟨u, hu⟩ := hraise.1 hdone
    rw [hu.eq_of_next h]
    cases hu with
    | ioError => exact ⟨rfl, rfl, rfl, rfl, TxSide.stop_stream _ _, rfl, rfl, rfl⟩

end Sys2Proof.Machine
end

section
/-! PROOFS. Reset, liveness and quiescence (70_reset_and_hazards.md R230, R244). -/

namespace Sys2Proof.Machine

/-! ### RESET (R230) -/

/-- Settles O37: RESET is `toReset` of each side, which writes just the registers of R30. -/
theorem resetRestoresControlState : Obligations.ResetRestoresControlState := by
  unfold Obligations.ResetRestoresControlState
  intro s
  refine ⟨_, exec_reset s, ?_⟩
  simp

/-! ### Every cycle has a next state (R244) -/

theorem count_total (p : PortIn) (c : Config) (r : RxSide) : ∃ r', p.count c r = .ok r' := by
  unfold PortIn.count
  split
  · exact rxTick_total c r
  · exact ⟨r, rfl⟩

theorem RxSide.Inv.count {p : PortIn} {c : Config} {r r' : RxSide} (h : r.Inv c) (hop : p.count c r = .ok r') :
    r'.Inv c := by
  unfold PortIn.count at hop
  split at hop
  · exact h.rxTick hop
  · cases hop
    exact h

/-- Wherever `rx_ready` is 1 a byte can be taken: R29 (a) and (b) keep `rx_cnt` within the buffer. -/
theorem RxSide.Inv.rxByte_total {c : Config} {r : RxSide} (h : r.Inv c) (hc : c.legal = true) (b : Byte)
    (hs : r.state = .awaitType ∨ r.state = .awaitLength ∨ r.state = .awaitBody) :
    ∃ r', Machine.rxByte b c r = .ok r' := by
  rcases hs with hs | hs | hs
  · rw [rxByte_of_awaitType b hs]
    exact rxByteType_enabled_iff.2 hs
  · rw [rxByte_of_awaitLength b hs]
    exact rxByteLength_enabled_iff.2 hs
  · rw [rxByte_of_awaitBody b hs]
    exact (rxByteBody_enabled_iff h hc).2 hs

/-- The ports ask only for a receive-side event that `rx_state` enables. -/
theorem RxSide.Inv.receive_total {c : Config} {r : RxSide} (h : r.Inv c) (hc : c.legal = true) (p : PortIn) :
    ∃ r', p.receive c r = .ok r' := by
  cases hs : r.state with
  | awaitType | awaitLength | awaitBody =>
    simp only [PortIn.receive, hs]
    split_ifs
    · exact h.rxByte_total hc p.rxData (by simp [hs])
    · exact ⟨_, rxClose_eq_ok.2 ⟨by simp [hs], rfl⟩⟩
    · exact ⟨r, rfl⟩
  | complete =>
    simp only [PortIn.receive, hs]
    split_ifs
    · exact ⟨_, rxAccept_eq_ok.2 ⟨hs, rfl⟩⟩
    · exact ⟨r, rfl⟩
  | terminated => exact ⟨r, by simp only [PortIn.receive, hs]⟩

/-- Settles O14: RESET always completes; in a cycle without `rst` each part completes, in the state the one before it
leaves. -/
theorem portCycleAlwaysAnswers : Obligations.PortCycleAlwaysAnswers := by
  unfold Obligations.PortCycleAlwaysAnswers
  rintro s p rest ⟨hlegal, hrx, hframe, -⟩ hinputs
  cases hrst : p.rst with
  | true => exact ⟨_, (step_cycle_of_rst hlegal hinputs hrst).trans (exec_reset _)⟩
  | false =>
    obtain ⟨r, hcount⟩ := count_total p s.cfg s.rx.clearPulse
    obtain ⟨r', hreceive⟩ := (hrx.clearPulse.count hcount).receive_total hlegal p
    obtain ⟨x, htransmit⟩ := transmit_total p (t := s.tx.clearPulse) hframe
    exact ⟨_, (step_cycle_eq_next hlegal hinputs hrst).2 ⟨r, r', x, hcount, hreceive, htransmit, rfl⟩⟩

/-! ### Quiescence (R244) -/

theorem State.quiescent_iff {s : State} :
    s.quiescent = true ↔ (s.rx.state = .awaitType ∨ s.rx.state = .terminated) ∧ s.tx.state = .idle := by
  simp [State.quiescent]

theorem receive_of_nothing_offered {p : PortIn} {c : Config} {r : RxSide}
    (hs : r.state = .awaitType ∨ r.state = .terminated) (hvalid : p.rxValid = false) (hclosed : p.rxClosed = false) :
    p.receive c r = .ok r := by
  rcases hs with hs | hs <;> simp [PortIn.receive, hs, hvalid, hclosed]

theorem transmit_of_no_request {p : PortIn} {c : Config} {t : TxSide} (hs : t.state = .idle)
    (hvalid : p.txqValid = false) : p.transmit c t = .ok t := by
  simp [PortIn.transmit, hs, hvalid]

/-- Settles O59: RESET leaves a quiescent state; without `rst` no window runs and nothing is asked for, so both sides
only meet the rising edge. -/
theorem quiescentStaysQuiescent : Obligations.QuiescentStaysQuiescent := by
  unfold Obligations.QuiescentStaysQuiescent
  refine ⟨fun s t p rest hq hinputs hvalid hclosed hrequest hstep => ?stays, fun s hpkt => ?holding⟩
  case stays =>
    obtain ⟨hrx, htx⟩ := State.quiescent_iff.1 hq
    have hlegal := legal_of_step hstep
    cases hrst : p.rst with
    | true =>
      rw [step_cycle_of_rst hlegal hinputs hrst] at hstep
      cases hstep
      exact ⟨rfl, rfl, rfl⟩
    | false =>
      have hcount : p.count s.cfg s.rx.clearPulse = .ok s.rx.clearPulse :=
        count_of_no_window (RxSide.windowRuns_eq_false.2 (hrx.imp_right .inr))
      have hnext := (step_cycle_eq_next hlegal hinputs hrst).2 ⟨_, _, _, hcount,
        receive_of_nothing_offered hrx hvalid hclosed, transmit_of_no_request htx hrequest, rfl⟩
      cases hstep.symm.trans hnext
      exact ⟨hq, rfl, rfl⟩
  case holding =>
    have hs : s.rx.state = .complete := State.pktValid_iff.1 hpkt
    simp [State.quiescent, hs]

end Sys2Proof.Machine
end
